-- ==== Sys2Proof/Word.lean ====
section
/-! DEFINITION. The words and numbers of the SZ-742: 00_scope.md 1.7 (word, address, page), 1.6 (requesters, tags,
branches, entries, windows). -/

namespace Sys2Proof

/-- A word is 32 bits (00_scope.md 1.7). -/
abbrev Word := BitVec 32

/-- A 40-bit byte address (00_scope.md 1.7). -/
abbrev Address := BitVec 40

/-- A page number is 28 bits: a 4 KiB aligned region (00_scope.md 1.7). -/
abbrev Page := BitVec 28

/-- A requester on the trunk, 0 to 31 (00_scope.md 1.6). -/
abbrev Requester := Fin 32

/-- A tag, 0 to 15 (00_scope.md 1.6). -/
abbrev Tag := Fin 16

/-- A branch B0 to B3 (00_scope.md 1.6); SINK is not one of them. -/
abbrev BranchId := Fin 4

/-- An index of the Deferred Request Table, 0 to 15 (R23). -/
abbrev EntryId := Fin 16

/-- An index of a window bank, 0 to 31 (R2). -/
abbrev WindowId := Fin 32

/-- The all-ones word FFFFFFFFh (00_scope.md 1.7). -/
abbrev allOnes : Word := 0xFFFFFFFF#32

end Sys2Proof
end

