-- ==== Sys2Proof/Config.lean ====
section
/-! DEFINITION. What the part fixes (IDENT, capacities) and the free values: what the spec leaves open, as constants
without a body. -/

namespace Sys2Proof.Config

/-- FREE VALUE (log 4). R21: "The table may fill any FREE entry." The entry filled is the one at this number, counted
round the FREE entries; the argument is the counter `State.fresh`. Nothing says which number it is. -/
opaque entryChoice : Nat → Nat

/-- FREE VALUE (log 5). R54: the time left on a running collection timer, when an MR of ENTRY is taken; the model keeps no
clock, so it is any value from 1 to the limit the timer runs for. The argument is the counter `State.fresh`. -/
opaque timeLeft : Nat → Nat

/-- R158: the vendor code. -/
def vendorCode : BitVec 16 := 0x3E27#16
/-- R158: the part code. -/
def partCode : BitVec 16 := 0x0742#16
/-- R158: the revision number. -/
def revision : BitVec 8 := 1#8

/-- R56: items a branch queue holds at most. -/
def queueItems : Nat := 16
/-- R56: words of posted data a branch queue holds at most. -/
def queueWords : Nat := 256
/-- R103: target notices the Upward Notice Queue holds at most. -/
def targetNotices : Nat := 26
/-- R135: fault entries a log holds at most. -/
def logEntries : Nat := 4
/-- R135: where the drop count stays. -/
def dropLimit : Nat := 255
/-- R167: frames a replay list holds at most. -/
def replayFrames : Nat := 16
/-- R166: consecutive check failures that lose the link. -/
def failureLimit : Nat := 8
/-- R167: resend rounds in a row. -/
def resendLimit : Nat := 4
/-- R171: answers and delivered requests the trunk port holds at most. -/
def trunkPlaces : Nat := 32
/-- R172: answers to BNTC packets and delivered BNTC packets a branch port holds at most. -/
def noticePlaces : Nat := 16
/-- R165: packet words a frame carries at most. -/
def frameWords : Nat := 40

end Sys2Proof.Config
end

