-- ==== Sys2Proof/Syntax.lean ====
section
/-! DEFINITION. The commands: one constructor of `Instr` for each row of spec/opcode_table.json, and the packets and frames
they carry (R165, R173, R174). -/

namespace Sys2Proof

/-- A port of the relay: the trunk port, or the port of one branch (09, before R165). -/
inductive Port where
  | trunk
  | branch (b : BranchId)
  deriving DecidableEq, Repr

/-- The kinds of non-posted memory requests (00_scope.md 1.5). -/
inductive NpKind where
  | rd
  | wrn
  | xch
  deriving DecidableEq, Repr

/-- The kinds of memory requests: a non-posted one, or WRP. -/
inductive MemKind where
  | np (k : NpKind)
  | wrp
  deriving DecidableEq, Repr

/-- The fields of an RD, WRN, WRP or XCH packet (R173). The length is the 6-bit field as received; the address is absent
when the frame carries fewer words than the three header words; `data` is what follows them. -/
structure MemoryRequest where
  requester : Requester
  tag : Tag
  length : BitVec 6
  address : Option Address
  data : List Word
  deriving DecidableEq, Repr

/-- The fields of an MR or MW packet (R173): the object is its class code and index, absent when the frame carries word 0
alone; `words` is what follows the two header words. -/
structure ManagementRequest where
  requester : Requester
  tag : Tag
  length : BitVec 6
  object : Option (BitVec 8 × BitVec 8)
  words : List Word
  deriving DecidableEq, Repr

/-- The fields of an MW whose object class the command's row names. -/
structure ObjectWrite where
  requester : Requester
  tag : Tag
  length : BitVec 6
  index : BitVec 8
  words : List Word
  deriving DecidableEq, Repr

/-- A packet that arrives on the trunk, its fields read by R173. An ABN keeps the number of words past its header. -/
inductive TrunkPacket where
  | memory (k : MemKind) (q : MemoryRequest)
  | abandon (requester : Requester) (tag : Tag) (extra : Nat)
  | managementRead (m : ManagementRequest)
  | managementWrite (m : ManagementRequest)
  | unknown (kind : BitVec 8) (requester : Requester) (tag : Tag)
  deriving DecidableEq, Repr

/-- The answers of a target (00_scope.md 1.5). -/
inductive TargetAnswer where
  | done
  | later
  | refuse
  deriving DecidableEq, Repr

/-- A packet that arrives on a branch, its fields read by R173: an answer with its data word count field and words, a BNTC
with its payload count field, code and words, or a packet of another kind. -/
inductive TargetPacket where
  | answer (a : TargetAnswer) (count : BitVec 6) (words : List Word)
  | notice (count : BitVec 3) (code : BitVec 8) (words : List Word)
  | other (kind : BitVec 8)
  deriving DecidableEq, Repr

/-- A frame of the Segment Link that passes its check (R165). -/
inductive Frame where
  | data (number : BitVec 8) (words : List Word)
  | ack (number : BitVec 8)
  | resend (number : BitVec 8)
  | train (ready : Bool)
  deriving DecidableEq, Repr

/-- The object classes of the management requests (R151, R174). -/
inductive ObjectClass where
  | ident
  | winStaged
  | winActive
  | commit
  | req
  | fault
  | branch
  | probe
  | entry
  | alert
  | timing
  | part
  deriving DecidableEq, Repr

/-- The commands: the events of the relay, one constructor for each row of spec/opcode_table.json, in its order. -/
inductive Instr where
  | read (q : MemoryRequest)
  | confirmedWrite (q : MemoryRequest)
  | postedWrite (q : MemoryRequest)
  | exchange (q : MemoryRequest)
  | abandon (requester : Requester) (tag : Tag) (extra : Nat)
  | unknownKind (kind : BitVec 8) (requester : Requester) (tag : Tag)
  | managementRead (m : ManagementRequest)
  | managementWrite (m : ManagementRequest)
  | winStagedWrite (m : ObjectWrite)
  | immediate (m : ObjectWrite)
  | drain (m : ObjectWrite)
  | cancel (m : ObjectWrite)
  | revert (m : ObjectWrite)
  | reqWrite (m : ObjectWrite)
  | take (m : ObjectWrite)
  | branchSettingsWrite (m : ObjectWrite)
  | holdFlagSet (m : ObjectWrite)
  | holdFlagCleared (m : ObjectWrite)
  | resetFlagSet (m : ObjectWrite)
  | resetFlagCleared (m : ObjectWrite)
  | probeRead (m : ObjectWrite)
  | probeWrite (m : ObjectWrite)
  | alertAcknowledge (m : ObjectWrite)
  | alertEnable (m : ObjectWrite)
  | timingWrite (m : ObjectWrite)
  | partReset (m : ObjectWrite)
  | hardReset
  | powerUp
  | engineChoice (b : BranchId)
  | done (b : BranchId) (count : BitVec 6) (words : List Word)
  | later (b : BranchId) (count : BitVec 6) (words : List Word)
  | refuse (b : BranchId) (count : BitVec 6) (words : List Word)
  | bntc (b : BranchId) (count : BitVec 3) (code : BitVec 8) (words : List Word)
  | strayTargetPacket (b : BranchId) (p : TargetPacket)
  | responseTimeout (b : BranchId)
  | retryIntervalPasses (b : BranchId)
  | backoffIntervalEnds (b : BranchId)
  | collectionTimerExpiry (n : EntryId)
  | drainTimerExpiry
  | transmitChoice
  | dataFrame (p : Port) (number : BitVec 8) (words : List Word)
  | ack (p : Port) (number : BitVec 8)
  | resend (p : Port) (number : BitVec 8)
  | train (p : Port) (ready : Bool)
  | trainFrameSend (p : Port)
  | checkFailure (p : Port) (raw : List Word)
  | acknowledgementTimerExpiry (p : Port)
  | signalAbsent (p : Port)
  deriving DecidableEq, Repr

end Sys2Proof
end

