-- ==== Sys2Proof/Decode.lean ====
section
/-! DEFINITION. Reading and writing the packets (R173, R174) and the frames with their check word (R165, R166), and the
host's `decodeTableWord`. No row of spec/opcode_table.json gives bits, so no word spells a command. -/

namespace Sys2Proof

/-- The field of `n` bits of a word whose lowest bit is bit `lo`. -/
def bits (w : Word) (lo n : Nat) : BitVec n := w.extractLsb' lo n

/-- One bit of a word. -/
def bit (w : Word) (i : Nat) : Bool := w.getLsbD i

/-- A word with the value `v` placed from bit `lo` upward. -/
def place {n : Nat} (v : BitVec n) (lo : Nat) : Word := v.setWidth 32 <<< lo

/-- A word with the flag `f` placed at bit `i`. -/
def placeFlag (f : Bool) (i : Nat) : Word := place (BitVec.ofBool f) i

/-- A word with the low `n` bits of the number `v` placed from bit `lo` upward. -/
def placeNat (v n lo : Nat) : Word := place (BitVec.ofNat n v) lo

/-- A requester number as a field of 5 bits. -/
def requesterBits (r : Requester) : BitVec 5 := BitVec.ofFin r

/-- A tag as a field of 4 bits. -/
def tagBits (t : Tag) : BitVec 4 := BitVec.ofFin t

/-- R173: bits 20:16 of word 0, the requester. -/
def requesterOf (w : Word) : Requester := (bits w 16 5).toFin

/-- R173: bits 15:12 of word 0, the tag. -/
def tagOf (w : Word) : Tag := (bits w 12 4).toFin

/-- R173: an address from bits 7:0 of the first address word and the second address word. -/
def addressOf (hi lo : Word) : Address := bits hi 0 8 ++ lo

/-- R173: the first address word of an address. -/
def addressHigh (a : Address) : Word := (a.extractLsb' 32 8).setWidth 32

/-- R173: the second address word of an address. -/
def addressLow (a : Address) : Word := a.extractLsb' 0 32

/-- R174: the kind code of a non-posted request. -/
def NpKind.code : NpKind → BitVec 8
  | .rd => 0x01#8
  | .wrn => 0x02#8
  | .xch => 0x04#8

/-- R174: the kind code of a memory request. -/
def MemKind.code : MemKind → BitVec 8
  | .np k => k.code
  | .wrp => 0x03#8

/-- R174: the kind code of ABN. -/
def kindAbn : BitVec 8 := 0x05#8
/-- R174: the kind code of MR. -/
def kindMr : BitVec 8 := 0x06#8
/-- R174: the kind code of MW. -/
def kindMw : BitVec 8 := 0x07#8

/-- R9, R174: the memory request kind a kind code names. -/
def MemKind.ofCode (c : BitVec 8) : Option MemKind :=
  if c = 0x01#8 then some (.np .rd)
  else if c = 0x02#8 then some (.np .wrn)
  else if c = 0x03#8 then some .wrp
  else if c = 0x04#8 then some (.np .xch)
  else none

/-- R9: the kind codes of requests are 01h to 07h; every other is an unknown kind on the trunk. -/
def requestKind (c : BitVec 8) : Bool := decide (0x01#8 ≤ c) && decide (c ≤ 0x07#8)

/-- R174: the code of an object class. -/
def ObjectClass.code : ObjectClass → BitVec 8
  | .ident => 1
  | .winStaged => 2
  | .winActive => 3
  | .commit => 4
  | .req => 5
  | .fault => 6
  | .branch => 7
  | .probe => 8
  | .entry => 9
  | .alert => 10
  | .timing => 11
  | .part => 12

/-- R174: the object class a code names; the others are unknown classes. -/
def ObjectClass.ofCode (c : BitVec 8) : Option ObjectClass :=
  if c = 1 then some .ident
  else if c = 2 then some .winStaged
  else if c = 3 then some .winActive
  else if c = 4 then some .commit
  else if c = 5 then some .req
  else if c = 6 then some .fault
  else if c = 7 then some .branch
  else if c = 8 then some .probe
  else if c = 9 then some .entry
  else if c = 10 then some .alert
  else if c = 11 then some .timing
  else if c = 12 then some .part
  else none

/-- R173: the fields of a memory request. A frame with fewer than three words gives no address and no data. -/
def MemoryRequest.ofWords (w0 : Word) : List Word → MemoryRequest
  | w1 :: w2 :: data =>
    { requester := requesterOf w0, tag := tagOf w0, length := bits w0 6 6, address := some (addressOf w1 w2), data := data }
  | _ => { requester := requesterOf w0, tag := tagOf w0, length := bits w0 6 6, address := none, data := [] }

/-- R173: the fields of a management request. A frame of one word gives no object. -/
def ManagementRequest.ofWords (w0 : Word) : List Word → ManagementRequest
  | w1 :: words =>
    { requester := requesterOf w0, tag := tagOf w0, length := bits w0 6 6, object := some (bits w1 8 8, bits w1 0 8),
      words := words }
  | [] => { requester := requesterOf w0, tag := tagOf w0, length := bits w0 6 6, object := none, words := [] }

/-- R173, R174: the packet that the words of a trunk DATA frame spell. The bits a layout does not name are not examined. R173 lays out no
packet of unknown kind: that its requester and tag are at bits 20:16 and 15:12 of word 0, where every trunk request has them, is the
model's reading (log 24, DEDUCED). A DATA frame always carries word 0 (R165). -/
def TrunkPacket.ofWords : List Word → TrunkPacket
  | [] => .unknown 0 0 0
  | w0 :: rest =>
    let kind := bits w0 24 8
    match MemKind.ofCode kind with
    | some k => .memory k (MemoryRequest.ofWords w0 rest)
    | none =>
      if kind = kindAbn then .abandon (requesterOf w0) (tagOf w0) rest.length
      else if kind = kindMr then .managementRead (ManagementRequest.ofWords w0 rest)
      else if kind = kindMw then .managementWrite (ManagementRequest.ofWords w0 rest)
      else .unknown kind (requesterOf w0) (tagOf w0)

/-- R173: word 0 of a trunk request. -/
def requestHeader (kind : BitVec 8) (r : Requester) (t : Tag) (length : BitVec 6) : Word :=
  kind ++ (0 : BitVec 3) ++ requesterBits r ++ tagBits t ++ length ++ (0 : BitVec 6)

/-- R173: the words of a memory request; with no address the frame stops after word 0. -/
def MemoryRequest.toWords (kind : BitVec 8) (q : MemoryRequest) : List Word :=
  match q.address with
  | some a => requestHeader kind q.requester q.tag q.length :: addressHigh a :: addressLow a :: q.data
  | none => [requestHeader kind q.requester q.tag q.length]

/-- R173: the words of a management request; with no object the frame stops after word 0. -/
def ManagementRequest.toWords (kind : BitVec 8) (m : ManagementRequest) : List Word :=
  match m.object with
  | some (c, i) => requestHeader kind m.requester m.tag m.length :: ((0 : BitVec 16) ++ c ++ i) :: m.words
  | none => [requestHeader kind m.requester m.tag m.length]

/-- R173: the words of a trunk packet. The bits and words that the layouts do not name are written as 0. A packet of unknown kind has its
requester and tag where every trunk request has them (log 24). -/
def TrunkPacket.toWords : TrunkPacket → List Word
  | .memory k q => q.toWords k.code
  | .abandon r t extra => requestHeader kindAbn r t 0 :: List.replicate extra 0
  | .managementRead m => m.toWords kindMr
  | .managementWrite m => m.toWords kindMw
  | .unknown kind r t => [requestHeader kind r t 0]

/-- R174: the kind code of a target's answer. -/
def TargetAnswer.code : TargetAnswer → BitVec 8
  | .done => 0x28#8
  | .later => 0x29#8
  | .refuse => 0x2A#8

/-- R174: the kind code of BNTC. -/
def kindBntc : BitVec 8 := 0x2B#8

/-- R173, R174: the packet that the words of a branch DATA frame spell. -/
def TargetPacket.ofWords : List Word → TargetPacket
  | [] => .other 0
  | w0 :: words =>
    let kind := bits w0 24 8
    if kind = TargetAnswer.done.code then .answer .done (bits w0 6 6) words
    else if kind = TargetAnswer.later.code then .answer .later (bits w0 6 6) words
    else if kind = TargetAnswer.refuse.code then .answer .refuse (bits w0 6 6) words
    else if kind = kindBntc then .notice (bits w0 8 3) (bits w0 0 8) words
    else .other kind

/-- R173: the words of a packet from a branch. -/
def TargetPacket.toWords : TargetPacket → List Word
  | .answer a count words => (a.code ++ (0 : BitVec 12) ++ count ++ (0 : BitVec 6)) :: words
  | .notice count code words => (kindBntc ++ (0 : BitVec 13) ++ count ++ code) :: words
  | .other kind => [kind ++ (0 : BitVec 24)]

/-! ### Frames -/

/-- R166: one bit fed to the cyclic check with the generator 04C11DB7h. -/
def checkBit (c : Word) (b : Bool) : Word := if c.msb ^^ b then (c <<< 1) ^^^ 0x04C11DB7#32 else c <<< 1

/-- R166: one word fed to the check, most significant bit first. -/
def checkFeed (c w : Word) : Word := (List.range 32).foldl (fun c i => checkBit c (w.getMsbD i)) c

/-- R166: the check word over the link header and the packet words, in order: it starts from FFFFFFFFh, and the final value
is inverted. -/
def checkWord (ws : List Word) : Word := ~~~ (ws.foldl checkFeed allOnes)

/-- R165: the link header of a frame: type, word count, link number, sequence number. -/
def linkHeader (type : BitVec 4) (count number sequence : BitVec 8) : Word :=
  type ++ (0 : BitVec 4) ++ count ++ number ++ sequence

/-- R165: a frame's link header and packet words. The fields that the frame's type does not use are sent as 0 (log 23). -/
def Frame.body : Frame → List Word
  | .data n ws => linkHeader 1 (BitVec.ofNat 8 ws.length) 0 n :: ws
  | .ack n => [linkHeader 2 0 n 0]
  | .resend n => [linkHeader 3 0 n 0]
  | .train ready => [linkHeader 4 0 ((BitVec.ofBool ready).setWidth 8) 0]

/-- R165, R166: the words of a frame on the link: link header, packet words, check word. -/
def Frame.toWords (f : Frame) : List Word := f.body ++ [checkWord f.body]

/-- R165: the frame that a link header and the packet words after it give, when its type and word count are allowed: 1 to 40
words for DATA, none for the others. Bits 27:24 are not examined, nor are the fields that the type does not use (log 23). -/
def Frame.ofBody (h : Word) (ws : List Word) : Option Frame :=
  let type := bits h 28 4
  if (bits h 16 8).toNat ≠ ws.length ∨ Config.frameWords < ws.length then none
  else if type = 1 then (if ws = [] then none else some (.data (bits h 0 8) ws))
  else if ws ≠ [] then none
  else if type = 2 then some (.ack (bits h 8 8))
  else if type = 3 then some (.resend (bits h 8 8))
  else if type = 4 then some (.train (bit h 8))
  else none

/-- R165, R166: the frame that the arriving words give, or none when they fail the check. -/
def Frame.ofWords (raw : List Word) : Option Frame :=
  match raw with
  | [] => none
  | h :: rest =>
    match rest.getLast? with
    | none => none
    | some c => if checkWord (h :: rest.dropLast) = c then Frame.ofBody h rest.dropLast else none

/-- The host's question: the command that a word spells by the bits of spec/opcode_table.json. No row of the table gives
bits (98_reader.md: n_rows_with_fixed 0), so no word spells one. -/
def decodeTableWord (nbits w : Nat) : Option Instr :=
  match nbits, w with
  | _, _ => none

end Sys2Proof
end

