-- ==== Sys2Proof/Machine/State.lean ====
section
/-! DEFINITION. Everything the SZ-742 holds, as plain data, and the machine right after reset. A field that is absent in a
state of the spec cannot be written down in that state (R23, R93, R133). -/

namespace Sys2Proof.Machine

/-! ### Window Table (01) -/

/-- R1, R175: a window record. The branch value is the 3-bit field, kept as written (R3). Bit r of a mask is requester r. -/
structure Window where
  valid : Bool
  base : Page
  limit : Page
  branch : BitVec 3
  posted : Bool
  readMask : Word
  writeMask : Word
  deriving DecidableEq, Repr

/-- R2: a window record after reset. -/
def Window.blank : Window :=
  { valid := false, base := 0, limit := 0, branch := 0, posted := false, readMask := 0, writeMask := 0 }

/-! ### Deferred Request Table (02) -/

/-- R23: the request fields of a live entry; they do not change while the entry is live. -/
structure EntryRequest where
  requester : Requester
  tag : Tag
  kind : NpKind
  address : Address
  length : BitVec 6
  data : List Word
  branch : BranchId
  generation : BitVec 16
  deriving DecidableEq, Repr

/-- R23: the result statuses of a COMPLETE entry. -/
inductive ResultStatus where
  | ok
  | exhausted
  | refused
  | unreached
  | branchReset
  deriving DecidableEq, Repr

/-- R23, R33: what a COMPLETE entry holds besides its request: result status, result data, fence, and the collection limit
(units of 16 µs) that its collection timer runs for. -/
structure Completion where
  status : ResultStatus
  data : List Word
  fence : Option (BitVec 16)
  timer : BitVec 16
  deriving DecidableEq, Repr

/-- R24: the states of a live entry. -/
inductive EntryState where
  | queued
  | issued
  | waiting
  | complete (c : Completion)
  | disowned
  deriving DecidableEq, Repr

/-- R23: a live entry. -/
structure LiveEntry where
  req : EntryRequest
  attempts : Nat
  state : EntryState
  deriving DecidableEq, Repr

/-- R23, R24: an entry of the Deferred Request Table. -/
inductive Entry where
  | free
  | live (e : LiveEntry)
  deriving DecidableEq, Repr

/-! ### Branch queues (03) -/

/-- R58: the delivery states of a posted item; BACKOFF carries the retry interval (µs) that runs. -/
inductive DeliveryState where
  | ready
  | sent
  | backoff (interval : BitVec 8)
  deriving DecidableEq, Repr

/-- R58: a posted item. -/
structure PostedItem where
  requester : Requester
  tag : Tag
  address : Address
  length : BitVec 6
  data : List Word
  generation : BitVec 16
  attempts : Nat
  state : DeliveryState
  deriving DecidableEq, Repr

/-- R55: an item of a branch queue. -/
inductive Item where
  | posted (p : PostedItem)
  | ref (n : EntryId)
  deriving DecidableEq, Repr

/-! ### Branch engines (04) -/

/-- R84: what is outstanding on a branch: a deferred entry, the posted item at the queue head, or the probe. -/
inductive Outstanding where
  | entry (n : EntryId)
  | posted
  | probe
  deriving DecidableEq, Repr

/-- R87, R88: an occupied retry slot: the WAITING entry, its retry interval (µs), and whether the interval has passed. -/
structure RetrySlot where
  entry : EntryId
  interval : BitVec 8
  passed : Bool
  deriving DecidableEq, Repr

/-- R93: a probe's operation; WRITE carries the probe word. -/
inductive ProbeOperation where
  | read
  | write (word : Word)
  deriving DecidableEq, Repr

/-- R93: the results of a probe; an OK of a READ carries the read word. -/
inductive ProbeResult where
  | ok (readWord : Option Word)
  | later
  | refused
  | unreached
  | unavailable
  | branchReset
  deriving DecidableEq, Repr

/-- R93: the probe record of an engine. -/
inductive Probe where
  | idle
  | pending (op : ProbeOperation) (address : Address)
  | issued (op : ProbeOperation) (address : Address)
  | done (op : ProbeOperation) (address : Address) (result : ProbeResult)
  deriving DecidableEq, Repr

/-! ### Ports (09) -/

/-- R165 to R170: the link fields of a port. `trainRun` and `readyRun` are the runs of TRAIN frames received (counted to 2) and
of those with the ready flag (counted to 4); `ready` is the flag its own TRAIN frames carry; `readySent` says that one has been
sent with the flag set. -/
structure LinkPort where
  up : Bool
  nextSend : BitVec 8
  expected : BitVec 8
  replay : List (BitVec 8 × List Word)
  ackTimer : Bool
  resendRounds : Nat
  checkFailures : Nat
  trainRun : Nat
  readyRun : Nat
  ready : Bool
  readySent : Bool
  deriving DecidableEq, Repr

/-- R169: a port that is DOWN and begins to train. -/
def LinkPort.fresh : LinkPort :=
  { up := false, nextSend := 0, expected := 0, replay := [], ackTimer := false, resendRounds := 0, checkFailures := 0,
    trainRun := 0, readyRun := 0, ready := false, readySent := false }

/-- R172: a packet that a branch engine has handed to its port and the port has not yet sent: a branch request, or the answer to
a BNTC (DONE when taken, LATER when not). -/
inductive BranchPacket where
  | request (words : List Word)
  | noticeAnswer (taken : Bool)
  deriving DecidableEq, Repr

/-- A branch: its queue (03), its engine (R77) and its port (R172). -/
structure Branch where
  queue : List Item
  level : Bool
  hold : Bool
  reset : Bool
  outstanding : Option Outstanding
  responseTimer : Option (BitVec 8)
  slot : Option RetrySlot
  probe : Probe
  budget : BitVec 16
  interval : BitVec 8
  timeout : BitVec 8
  watermark : BitVec 5
  dest : Requester
  link : LinkPort
  delivered : List TargetPacket
  toSend : List BranchPacket
  deriving DecidableEq, Repr

/-- R57, R98, R99: a branch after a reset. -/
def Branch.fresh : Branch :=
  { queue := [], level := false, hold := false, reset := false, outstanding := none, responseTimer := none, slot := none,
    probe := .idle, budget := 1024, interval := 4, timeout := 64, watermark := 12, dest := 0, link := LinkPort.fresh,
    delivered := [], toSend := [] }

/-! ### Answers (00_scope.md 1.5, R174) -/

/-- R174: the BSY reasons. -/
inductive BusyReason where
  | tableFull
  | quota
  | queueFull
  | words
  | draining
  | tagHeld
  deriving DecidableEq, Repr

/-- R174: the CPL statuses. -/
inductive CplStatus where
  | ok
  | format
  | conflict
  | unclaimed
  | unavailable
  | denied
  | exhausted
  | refused
  | unreached
  | branchReset
  | noEntry
  | badValue
  | objectBusy
  deriving DecidableEq, Repr

/-- The four answer kinds. -/
inductive AnswerBody where
  | taken
  | deferred
  | busy (reason : BusyReason)
  | completion (status : CplStatus) (data : List Word)
  deriving DecidableEq, Repr

/-- An answer in the trunk port's answer list: it carries the requester and tag of its request (R173). -/
structure Answer where
  requester : Requester
  tag : Tag
  body : AnswerBody
  deriving DecidableEq, Repr

/-- R171: the trunk port: its link fields, its answer list, the delivered requests not yet taken, and whether the trunk is DOWN
through a trunk loss (R146). -/
structure TrunkPort where
  link : LinkPort
  answers : List Answer
  delivered : List TrunkPacket
  lost : Bool
  deriving DecidableEq, Repr

/-- R171: the trunk port after a hard reset. -/
def TrunkPort.fresh : TrunkPort := { link := LinkPort.fresh, answers := [], delivered := [], lost := false }

/-! ### Notices, faults and alerts (05, 07) -/

/-- R140: the alert classes. -/
inductive AlertKind where
  | fault
  | undelivered
  | uncollected
  | level
  | commit
  | restart
  deriving DecidableEq, Repr

/-- R100: where a notice comes from, with its notice code: a branch with the card's code, or the part with its alert class. -/
inductive NoticeSource where
  | target (b : BranchId) (code : BitVec 8)
  | alert (c : AlertKind)
  deriving DecidableEq, Repr

/-- R100: a notice record. -/
structure Notice where
  seq : BitVec 16
  source : NoticeSource
  dest : Requester
  payload : List Word
  deriving DecidableEq, Repr

/-- R140: the marker of an alert class. -/
inductive Marker where
  | none
  | queued
  | queuedOwed
  deriving DecidableEq, Repr

/-- R140: an alert class: enabled flag, the detail while it is raised, marker. -/
structure AlertClass where
  enabled : Bool
  raised : Option Word
  marker : Marker
  deriving DecidableEq, Repr

/-- R140: the six alert classes. -/
structure Alerts where
  fault : AlertClass
  undelivered : AlertClass
  uncollected : AlertClass
  level : AlertClass
  commit : AlertClass
  restart : AlertClass
  deriving DecidableEq, Repr

/-- R140: an alert class after a reset. -/
def AlertClass.fresh : AlertClass := { enabled := true, raised := none, marker := .none }

/-- R67, R134: the reasons of an UNDELIVERED fault. -/
inductive DropReason where
  | exhausted
  | refused
  | unreached
  | branchLost
  deriving DecidableEq, Repr

/-- R134: the group of a fault with its cause set, one flag for each cause that can apply together with others. -/
inductive FaultCauses where
  | format (kind length align pageCross : Bool)
  | conflict
  | unclaimed
  | unavailable
  | noObject
  | permission (noRead noWrite noPosted notManager readOnly : Bool)
  | value (badValue objectBusy : Bool)
  | undelivered (reason : DropReason)
  | uncollected (held : ResultStatus)
  deriving DecidableEq, Repr

/-- R133: a fault entry. -/
structure FaultEntry where
  causes : FaultCauses
  requester : Requester
  kind : BitVec 8
  tag : Tag
  address : Option Address
  object : Option (BitVec 8 × BitVec 8)
  branch : Option BranchId
  window : Option WindowId
  generation : BitVec 16
  deriving DecidableEq, Repr

/-- R135: a requester's fault log: its entries, oldest first, and its drop count. -/
structure FaultLog where
  entries : List FaultEntry
  drops : Nat
  deriving DecidableEq, Repr

/-! ### Management (06, 08) -/

/-- R116: the commit controller's state; DRAINING carries the drain limit (units of 16 µs) that its timer runs for. -/
inductive ControllerState where
  | idle
  | draining (timer : BitVec 16)
  deriving DecidableEq, Repr

/-- R116: the last outcome. -/
inductive CommitOutcome where
  | none
  | done
  | timedOut
  | cancelled
  deriving DecidableEq, Repr

/-- R148: a requester settings record. -/
structure RequesterSettings where
  quota : BitVec 5
  strict : Bool
  manager : Bool
  deriving DecidableEq, Repr

/-- R162: the last reset cause. -/
inductive ResetCause where
  | pin
  | power
  | managed
  deriving DecidableEq, Repr

/-! ### The state -/

/-- Everything the relay holds. The last three fields are the model's own: the frames sent in the last event (log 19), the
counter the free values are drawn with (log 4, log 5), and the queue of commands (log 1). -/
structure State where
  trunk : TrunkPort
  branches : Vector Branch 4
  staged : Vector Window 32
  active : Vector Window 32
  generation : BitVec 16
  entries : Vector Entry 16
  notices : List Notice
  nextSeq : BitVec 16
  logs : Vector FaultLog 32
  alerts : Alerts
  alertDest : Requester
  controller : ControllerState
  outcome : CommitOutcome
  settings : Vector RequesterSettings 32
  collectionLimit : BitVec 16
  drainLimit : BitVec 16
  resetCause : ResetCause
  sent : List (Port × Frame)
  fresh : Nat
  pending : List Instr
  deriving DecidableEq, Repr

/-- No command of the relay stops it with a fault: what the spec calls faults are fault entries and error answers (R134), which
are next states. So this type has no constructor, and no claim can be about one (safe: nothing stops). -/
inductive Fault where
  deriving DecidableEq, Repr

/-- A command without a meaning. -/
inductive Refusal where
  /-- Raised by an arm of `exec` whose command has no meaning yet; no arm does (safe). -/
  | notModelled (mnemonic : String)
  deriving DecidableEq, Repr

/-- Every block at the values the spec states for reset (R2, R6, R25, R57, R99, R112, R116, R135, R140, R148, R171), before the
RESTART that the reset raises at its end; the cause is POWER (log 6). -/
def State.cleared : State :=
  { trunk := TrunkPort.fresh
    branches := Vector.replicate 4 Branch.fresh
    staged := Vector.replicate 32 Window.blank
    active := Vector.replicate 32 Window.blank
    generation := 0
    entries := Vector.replicate 16 .free
    notices := []
    nextSeq := 0
    logs := Vector.replicate 32 { entries := [], drops := 0 }
    alerts :=
      { fault := AlertClass.fresh, undelivered := AlertClass.fresh, uncollected := AlertClass.fresh, level := AlertClass.fresh,
        commit := AlertClass.fresh, restart := AlertClass.fresh }
    alertDest := 0
    controller := .idle
    outcome := .none
    settings := Vector.replicate 32 { quota := 2, strict := true, manager := true }
    collectionLimit := 2048
    drainLimit := 4096
    resetCause := .power
    sent := []
    fresh := 0
    pending := [] }

/-- The relay right after power-up: `State.cleared`, and RESTART raised with POWER (R146): its notice is the first in the queue,
with sequence number 0, for requester 0 (R112). The reset cause code of POWER is 2 (R174). -/
def State.reset : State :=
  { State.cleared with
    notices := [{ seq := 0, source := .alert .restart, dest := 0, payload := [2] }]
    nextSeq := 1
    alerts := { State.cleared.alerts with restart := { enabled := true, raised := some 2, marker := .queued } } }

end Sys2Proof.Machine
end

