-- ==== Sys2Proof/Machine/Operands.lean ====
section
/-! DEFINITION. The numeric codes (R174), the packets the relay sends (R173), and the layouts of the management records
(R175, R176) in both directions. -/

namespace Sys2Proof.Machine

/-! ### Codes (R174) -/

/-- R174: the code of an alert class, which is also its notice code. -/
def AlertKind.number : AlertKind → Nat
  | .fault => 1
  | .undelivered => 2
  | .uncollected => 3
  | .level => 4
  | .commit => 5
  | .restart => 6

/-- The alert classes in ascending class number (R145). -/
def AlertKind.all : List AlertKind := [.fault, .undelivered, .uncollected, .level, .commit, .restart]

/-- The class record of an alert class. -/
def Alerts.get (a : Alerts) : AlertKind → AlertClass
  | .fault => a.fault
  | .undelivered => a.undelivered
  | .uncollected => a.uncollected
  | .level => a.level
  | .commit => a.commit
  | .restart => a.restart

/-- The alert classes with one class record replaced. -/
def Alerts.put (a : Alerts) (c : AlertKind) (r : AlertClass) : Alerts :=
  match c with
  | .fault => { a with fault := r }
  | .undelivered => { a with undelivered := r }
  | .uncollected => { a with uncollected := r }
  | .level => { a with level := r }
  | .commit => { a with commit := r }
  | .restart => { a with restart := r }

/-- R174: the value of a marker. -/
def Marker.code : Marker → Nat
  | .none => 0
  | .queued => 1
  | .queuedOwed => 2

/-- R37: the CPL status that reports a result status. -/
def ResultStatus.cpl : ResultStatus → CplStatus
  | .ok => .ok
  | .exhausted => .exhausted
  | .refused => .refused
  | .unreached => .unreached
  | .branchReset => .branchReset

/-- R174: the value of a CPL status. -/
def CplStatus.code : CplStatus → Nat
  | .ok => 0
  | .format => 1
  | .conflict => 2
  | .unclaimed => 3
  | .unavailable => 4
  | .denied => 5
  | .exhausted => 6
  | .refused => 7
  | .unreached => 8
  | .branchReset => 9
  | .noEntry => 10
  | .badValue => 11
  | .objectBusy => 12

/-- R174: the value of a BSY reason. -/
def BusyReason.code : BusyReason → Nat
  | .tableFull => 1
  | .quota => 2
  | .queueFull => 3
  | .words => 4
  | .draining => 5
  | .tagHeld => 6

/-- R174: the value of a commit outcome. -/
def CommitOutcome.code : CommitOutcome → Nat
  | .none => 0
  | .done => 1
  | .timedOut => 2
  | .cancelled => 3

/-- R174: the value of a reset cause. -/
def ResetCause.code : ResetCause → Nat
  | .pin => 1
  | .power => 2
  | .managed => 3

/-- R174: the cause code TRUNK, which only a RESTART detail carries. -/
def trunkCauseCode : Nat := 4

/-- R176: the value of an UNDELIVERED reason. -/
def DropReason.code : DropReason → Nat
  | .exhausted => 1
  | .refused => 2
  | .unreached => 3
  | .branchLost => 4

/-- R174: the value of an entry state. -/
def Entry.code : Entry → Nat
  | .free => 0
  | .live e =>
    match e.state with
    | .queued => 1
    | .issued => 2
    | .waiting => 3
    | .complete _ => 4
    | .disowned => 5

/-- R93: the operation of a probe record that is not IDLE. -/
def Probe.operation : Probe → Option (ProbeOperation × Address)
  | .idle => none
  | .pending op a => some (op, a)
  | .issued op a => some (op, a)
  | .done op a _ => some (op, a)

/-- R174: the value of a probe state. -/
def Probe.code : Probe → Nat
  | .idle => 0
  | .pending _ _ => 1
  | .issued _ _ => 2
  | .done _ _ _ => 3

/-- R174: the value of a probe result. -/
def ProbeResult.code : ProbeResult → Nat
  | .ok _ => 0
  | .later => 1
  | .refused => 2
  | .unreached => 3
  | .unavailable => 4
  | .branchReset => 5

/-- R174: the value of a probe operation. -/
def ProbeOperation.code : ProbeOperation → Nat
  | .read => 1
  | .write _ => 2

/-! ### Packets the relay sends (R173) -/

/-- R173: word 0 of an answer. -/
def answerHeader (kind : BitVec 8) (r : Requester) (t : Tag) (count code : Nat) : Word :=
  kind ++ (0 : BitVec 3) ++ requesterBits r ++ tagBits t ++ BitVec.ofNat 6 count ++ BitVec.ofNat 6 code

/-- R173, R174: the words of an answer. -/
def Answer.toWords (a : Answer) : List Word :=
  match a.body with
  | .taken => [answerHeader 0x10#8 a.requester a.tag 0 0]
  | .deferred => [answerHeader 0x11#8 a.requester a.tag 0 0]
  | .busy r => [answerHeader 0x12#8 a.requester a.tag 0 r.code]
  | .completion st data => answerHeader 0x13#8 a.requester a.tag data.length st.code :: data

/-- R173: the origin value of a notice: 0 to 3 for a branch, 7 for PART. -/
def NoticeSource.origin : NoticeSource → BitVec 3
  | .target b _ => BitVec.ofNat 3 b
  | .alert _ => 7

/-- R100: the notice code: the card's, or the alert class. -/
def NoticeSource.code : NoticeSource → BitVec 8
  | .target _ c => c
  | .alert c => BitVec.ofNat 8 c.number

/-- R173, R174: the words of an NTC. -/
def Notice.toWords (n : Notice) : List Word :=
  ((0x14#8 : BitVec 8) ++ (0 : BitVec 3) ++ requesterBits n.dest ++ n.source.origin ++ (0 : BitVec 2)
      ++ BitVec.ofNat 3 n.payload.length ++ n.source.code)
    :: ((0 : BitVec 16) ++ n.seq) :: n.payload

/-- R173: a branch request: kind, length, address, data. -/
def branchRequest (kind : BitVec 8) (length : BitVec 6) (a : Address) (data : List Word) : List Word :=
  (kind ++ (0 : BitVec 12) ++ length ++ (0 : BitVec 6)) :: addressHigh a :: addressLow a :: data

/-- R28, R174: the branch request that issues an entry: BRD, BWR with the write data, or BXC with the write data. -/
def EntryRequest.issueWords (q : EntryRequest) : List Word :=
  match q.kind with
  | .rd => branchRequest 0x20#8 q.length q.address []
  | .wrn => branchRequest 0x21#8 q.length q.address q.data
  | .xch => branchRequest 0x22#8 q.length q.address q.data

/-- R62: the BWR that issues a posted item. -/
def PostedItem.issueWords (p : PostedItem) : List Word := branchRequest 0x21#8 p.length p.address p.data

/-- R94: the request that issues a probe: a BRD of length 1, or a BWR of length 1 with the probe word. -/
def ProbeOperation.issueWords (op : ProbeOperation) (a : Address) : List Word :=
  match op with
  | .read => branchRequest 0x20#8 1 a []
  | .write w => branchRequest 0x21#8 1 a [w]

/-- R173: the words of what a branch port sends: a branch request, or DONE or LATER to a BNTC, which carry no words. -/
def BranchPacket.toWords : BranchPacket → List Word
  | .request ws => ws
  | .noticeAnswer true => [(0x28#8 : BitVec 8) ++ (0 : BitVec 24)]
  | .noticeAnswer false => [(0x29#8 : BitVec 8) ++ (0 : BitVec 24)]

/-! ### Management records (R175, R176) -/

/-- Word `k` of a record. -/
def wordAt (ws : List Word) (k : Nat) : Word := ws.getD k 0

/-- R175: the layout of WIN-STAGED and WIN-ACTIVE. -/
def Window.toWords (w : Window) : List Word :=
  [BitVec.ofBool w.valid ++ w.branch ++ w.base, (0 : BitVec 3) ++ BitVec.ofBool w.posted ++ w.limit, w.readMask, w.writeMask]

/-- R175: the window record that an MW of WIN-STAGED carries. -/
def Window.ofWords (ws : List Word) : Window :=
  { valid := bit (wordAt ws 0) 31, base := bits (wordAt ws 0) 0 28, limit := bits (wordAt ws 1) 0 28,
    branch := bits (wordAt ws 0) 28 3, posted := bit (wordAt ws 1) 28, readMask := wordAt ws 2, writeMask := wordAt ws 3 }

/-- R158, R175: the record of IDENT. -/
def identRecord : List Word :=
  [Config.vendorCode.setWidth 32, Config.partCode.setWidth 32, Config.revision.setWidth 32,
    (32#8 : BitVec 8) ++ (16#8 : BitVec 8) ++ (32#8 : BitVec 8) ++ (4#8 : BitVec 8)]

/-- R175: the record of COMMIT. -/
def commitRecord (draining : Bool) (o : CommitOutcome) (generation : BitVec 16) : List Word :=
  [placeFlag draining 8 ||| placeNat o.code 2 16, generation.setWidth 32]

/-- R175: the record of REQ. -/
def reqRecord (q : RequesterSettings) (entryCount logCount : Nat) : List Word :=
  [q.quota.setWidth 32 ||| placeFlag q.strict 8 ||| placeFlag q.manager 9, placeNat entryCount 5 0 ||| placeNat logCount 3 8]

/-- R175: the settings that an MW of REQ carries. -/
def RequesterSettings.ofWords (ws : List Word) : RequesterSettings :=
  { quota := bits (wordAt ws 0) 0 5, strict := bit (wordAt ws 0) 8, manager := bit (wordAt ws 0) 9 }

/-- R176: the group of a fault's causes. -/
def FaultCauses.group : FaultCauses → Nat
  | .format _ _ _ _ => 1
  | .conflict => 2
  | .unclaimed => 3
  | .unavailable => 3
  | .noObject => 3
  | .permission _ _ _ _ _ => 4
  | .value _ _ => 5
  | .undelivered _ => 6
  | .uncollected _ => 6

/-- R176: the cause set, one bit for each cause of the group, counted from its bit 0. -/
def FaultCauses.bits : FaultCauses → BitVec 5
  | .format k l a p => (0 : BitVec 1) ++ BitVec.ofBool p ++ BitVec.ofBool a ++ BitVec.ofBool l ++ BitVec.ofBool k
  | .conflict => 1
  | .unclaimed => 1
  | .unavailable => 2
  | .noObject => 4
  | .permission r w p m o => BitVec.ofBool o ++ BitVec.ofBool m ++ BitVec.ofBool p ++ BitVec.ofBool w ++ BitVec.ofBool r
  | .value b o => (0 : BitVec 3) ++ BitVec.ofBool o ++ BitVec.ofBool b
  | .undelivered _ => 1
  | .uncollected _ => 2

/-- R176: the UNDELIVERED reason; 0 for other causes. -/
def FaultCauses.reason : FaultCauses → Nat
  | .undelivered r => r.code
  | _ => 0

/-- R133, R176: the status held, for UNCOLLECTED. -/
def FaultCauses.held : FaultCauses → Option ResultStatus
  | .uncollected st => some st
  | _ => none

/-- R176: the record of FAULT: the oldest entry of the log, when there is one, and the drop count. -/
def faultRecord (log : FaultLog) : List Word :=
  let drops := placeNat log.drops 8 8
  match log.entries with
  | [] => [drops, 0, 0, 0]
  | f :: _ =>
    [ placeFlag true 31 ||| placeNat f.causes.group 3 28 ||| placeNat f.causes.reason 3 24 ||| place f.causes.bits 16 ||| drops
        ||| placeFlag f.address.isSome 0 ||| placeFlag f.object.isSome 1 ||| placeFlag f.branch.isSome 2
        ||| placeFlag f.window.isSome 3 ||| placeFlag f.causes.held.isSome 4,
      place f.kind 24 ||| place (requesterBits f.requester) 16 ||| place (tagBits f.tag) 12
        ||| (match f.causes.held with | some st => placeNat st.cpl.code 4 8 | none => 0)
        ||| (match f.branch with | some b => placeNat b 2 6 | none => 0)
        ||| (match f.window with | some i => placeNat i 5 0 | none => 0),
      place f.generation 16
        ||| (match f.object with | some (c, i) => place c 8 ||| i.setWidth 32 | none => 0)
        ||| (match f.address with | some a => addressHigh a | none => 0),
      (match f.address with | some a => addressLow a | none => 0) ]

/-- The settings and flags of R98 as an MW to BRANCH[b] carries them (R175). -/
structure BranchSettings where
  timeout : BitVec 8
  interval : BitVec 8
  budget : BitVec 16
  reset : Bool
  hold : Bool
  dest : Requester
  watermark : BitVec 5
  deriving DecidableEq, Repr

/-- R175: the settings and flags that an MW of BRANCH carries. -/
def BranchSettings.ofWords (ws : List Word) : BranchSettings :=
  { timeout := bits (wordAt ws 0) 24 8, interval := bits (wordAt ws 0) 16 8, budget := bits (wordAt ws 0) 0 16,
    reset := bit (wordAt ws 1) 17, hold := bit (wordAt ws 1) 16, dest := (bits (wordAt ws 1) 8 5).toFin,
    watermark := bits (wordAt ws 1) 0 5 }

/-- R175: the record of BRANCH; the state code, the item count and the posted word count are those of R78 and R55. -/
def branchRecord (br : Branch) (stateCode items words : Nat) : List Word :=
  [ place br.timeout 24 ||| place br.interval 16 ||| place br.budget 0,
    placeFlag br.reset 17 ||| placeFlag br.hold 16 ||| place (requesterBits br.dest) 8 ||| place br.watermark 0,
    placeFlag br.level 17 ||| placeFlag br.slot.isSome 16 ||| placeNat items 5 8 ||| placeNat stateCode 2 0,
    placeNat words 9 0 ]

/-- R93, R175: the operation and address that an MW of PROBE carries; none when the operation is neither READ nor WRITE. -/
def probeOfWords (ws : List Word) : Option (ProbeOperation × Address) :=
  let a := addressOf (wordAt ws 1) (wordAt ws 2)
  if bits (wordAt ws 0) 0 2 = 1 then some (.read, a)
  else if bits (wordAt ws 0) 0 2 = 2 then some (.write (wordAt ws 3), a)
  else none

/-- R175: the record of PROBE; a field absent in the record reads as 0. -/
def probeRecord (p : Probe) : List Word :=
  match p.operation with
  | none => [0, 0, 0, 0]
  | some (op, a) =>
    [ placeNat op.code 2 0 ||| placeNat p.code 2 8 ||| (match p with | .done _ _ r => placeNat r.code 3 16 | _ => 0),
      addressHigh a, addressLow a,
      (match op, p with
        | .write w, _ => w
        | .read, .done _ _ (.ok (some w)) => w
        | .read, _ => 0) ]

/-- R54, R175: the record of ENTRY, given the time left on the collection timer; eight words of 0 for a FREE entry. -/
def entryRecord (e : Entry) (timeLeft : Nat) : List Word :=
  match e with
  | .free => [0, 0, 0, 0, 0, 0, 0, 0]
  | .live l =>
    let q := l.req
    let done : Option Completion := match l.state with | .complete c => some c | _ => none
    let fence : Option (BitVec 16) := done.bind (·.fence)
    [ place q.kind.code 24 ||| place (requesterBits q.requester) 16 ||| place (tagBits q.tag) 12 ||| placeNat e.code 3 0,
      (match done with | some c => placeNat c.status.cpl.code 4 24 | none => 0) ||| placeFlag fence.isSome 16
        ||| placeNat q.branch 2 8 ||| place q.length 0,
      addressHigh q.address, addressLow q.address, q.generation.setWidth 32, placeNat l.attempts 16 0,
      (match fence with | some n => n.setWidth 32 | none => 0),
      (match done with | some _ => placeNat timeLeft 16 0 | none => 0) ]

/-- R175: the record of ALERT: class k occupies bit k−1 of each flag set and two bits of the marker field from 16+2(k−1) (R174). -/
def alertRecord (a : Alerts) (dest : Requester) : List Word :=
  [ AlertKind.all.foldl (fun w c => w ||| placeFlag (a.get c).enabled (c.number - 1)) (place (requesterBits dest) 8),
    AlertKind.all.foldl
      (fun w c => w ||| placeFlag (a.get c).raised.isSome (c.number - 1) ||| placeNat (a.get c).marker.code 2 (16 + 2 * (c.number - 1)))
      0 ]

/-- R175: the acknowledge flag of class c in an MW of ALERT. -/
def ackFlag (ws : List Word) (c : AlertKind) : Bool := bit (wordAt ws 0) (16 + (c.number - 1))

/-- R175: the enabled flag of class c in an MW of ALERT. -/
def enableFlag (ws : List Word) (c : AlertKind) : Bool := bit (wordAt ws 0) (c.number - 1)

/-- R175: the alert destination in an MW of ALERT. -/
def alertDestOf (ws : List Word) : Requester := (bits (wordAt ws 0) 8 5).toFin

/-- R175: the record of TIMING. -/
def timingRecord (collection drain : BitVec 16) : List Word := [collection.setWidth 32, drain.setWidth 32]

/-- R175: the record of PART. -/
def partRecord (c : ResetCause) : List Word := [placeNat c.code 4 8, 0]

/-- R175: the action field of COMMIT, FAULT and PART. -/
def actionOf (ws : List Word) : BitVec 4 := bits (wordAt ws 0) 0 4

/-- R175: the clear-drop-count choice of an MW of FAULT. -/
def clearDropOf (ws : List Word) : Bool := bit (wordAt ws 0) 8

/-! ### The record of a command whose row names a field's value (log 3) -/

/-- The record with the `n`-bit field of word `k` that starts at bit `lo` holding `v`. -/
def withField (ws : List Word) (k lo n : Nat) (v : BitVec n) : List Word :=
  ws.modify k (fun w => (w &&& ~~~(place (BitVec.allOnes n) lo)) ||| place v lo)

/-- The management request that an MW of a row's own class is. -/
def objectRequest (m : ObjectWrite) (c : ObjectClass) : ManagementRequest :=
  { requester := m.requester, tag := m.tag, length := m.length, object := some (c.code, m.index), words := m.words }

/-- That MW with the row's field value in its record. -/
def objectWithField (m : ObjectWrite) (k lo n : Nat) (v : BitVec n) : ObjectWrite :=
  { m with words := withField m.words k lo n v }

end Sys2Proof.Machine
end

