-- ==== Sys2Proof/Machine/Flags.lean ====
section
/-! DEFINITION. What the relay derives from what it holds: branch states (R78), counts (R26, R55, R101), the level flag's rule
(R70), the drain condition (R121), eligibility (R60, R85), and the cause sets of the format, permission and value groups. -/

namespace Sys2Proof.Machine

/-! ### Branches -/

/-- R78: the states of a branch. -/
inductive BranchState where
  | active
  | held
  | down
  | reset
  deriving DecidableEq, Repr

/-- R174: the value of a branch state. -/
def BranchState.code : BranchState → Nat
  | .active => 0
  | .held => 1
  | .down => 2
  | .reset => 3

/-- R78: the branch state, from the reset flag, the link state and the hold flag, in that order. -/
def Branch.state (br : Branch) : BranchState :=
  if br.reset then .reset else if !br.link.up then .down else if br.hold then .held else .active

/-- The branch is ACTIVE or HELD: it carries packets (R79, R96). -/
def Branch.carries (br : Branch) : Bool := br.link.up && !br.reset

/-- R55: the posted words an item counts. -/
def Item.words : Item → Nat
  | .posted p => p.length.toNat
  | .ref _ => 0

/-- Whether an item is a posted item. -/
def Item.isPosted : Item → Bool
  | .posted _ => true
  | .ref _ => false

/-- R55: the posted word count of a queue. -/
def queueWords (q : List Item) : Nat := (q.map Item.words).sum

/-- R70: whether the item count is equal to or above the watermark. -/
def Branch.atWatermark (br : Branch) : Bool := decide (br.watermark.toNat ≤ br.queue.length)

/-- R172: the places that BNTC packets take in a branch port: delivered and not yet taken, or answered and not yet sent. -/
def Branch.noticePlaces (br : Branch) : Nat :=
  br.delivered.countP (fun p => match p with | .notice _ _ _ => true | _ => false)
    + br.toSend.countP (fun p => match p with | .noticeAnswer _ => true | .request _ => false)

/-- R85: what a choice takes: the PENDING probe, the slot entry, or the head of the queue. -/
inductive Source where
  | probe (op : ProbeOperation) (address : Address)
  | slot (n : EntryId)
  | headRef (n : EntryId)
  | headPosted (p : PostedItem)
  deriving DecidableEq, Repr

/-- R60: the head of the queue as a source, on an ACTIVE branch. -/
def Branch.headSource (br : Branch) : Option Source :=
  match br.queue with
  | .posted p :: _ => if p.state = .ready then some (.headPosted p) else none
  | .ref n :: _ => if br.slot = none then some (.headRef n) else none
  | [] => none

/-- R85: the retry slot as a source, on an ACTIVE branch: an entry whose retry interval has passed. -/
def Branch.slotSource (br : Branch) : Option Source :=
  match br.slot with
  | some x => if x.passed then some (.slot x.entry) else none
  | none => none

/-- R85: the first eligible source, when no request is outstanding. -/
def Branch.choice (br : Branch) : Option Source :=
  if br.outstanding.isSome then none
  else
    match br.probe, br.state with
    | .pending op a, .active => some (.probe op a)
    | .pending op a, .held => some (.probe op a)
    | _, .active => br.slotSource <|> br.headSource
    | _, _ => none

/-! ### The Deferred Request Table -/

/-- Whether an entry is live for the pair (requester, tag) (R35). -/
def Entry.holds (e : Entry) (r : Requester) (t : Tag) : Bool :=
  match e with
  | .live l => l.req.requester == r && l.req.tag == t
  | .free => false

/-- Whether an entry is not FREE and carries the requester number (R26). -/
def Entry.ownedBy (e : Entry) (r : Requester) : Bool :=
  match e with
  | .live l => l.req.requester == r
  | .free => false

/-- R121: whether an entry counts in the drain condition. -/
def Entry.counted : Entry → Bool
  | .free => false
  | .live l =>
    match l.state with
    | .complete _ => false
    | _ => true

/-- R35: the entry that the pair (requester, tag) names. -/
def State.findEntry (s : State) (r : Requester) (t : Tag) : Option EntryId :=
  (List.finRange 16).find? (fun n => s.entries[n].holds r t)

/-- R26: a requester's entry count. -/
def State.entryCount (s : State) (r : Requester) : Nat := s.entries.toList.countP (fun e => e.ownedBy r)

/-- The indices of the FREE entries. -/
def State.freeEntries (s : State) : List EntryId := (List.finRange 16).filter (fun n => s.entries[n] == .free)

/-- R21: the FREE entry that an acceptance fills; which one is a free value (log 4). -/
def State.pickFree (s : State) : Option EntryId :=
  match s.freeEntries with
  | [] => none
  | n :: rest => some ((n :: rest).getD (Config.entryChoice s.fresh % (rest.length + 1)) n)

/-- R54: the time left on a collection timer that runs for the limit given, in units of 16 µs, rounded up (log 5). -/
def State.timeLeft (s : State) (limit : BitVec 16) : Nat := 1 + Config.timeLeft s.fresh % limit.toNat

/-! ### Notices -/

/-- R100: whether a notice is a target notice. -/
def Notice.isTarget (n : Notice) : Bool :=
  match n.source with
  | .target _ _ => true
  | .alert _ => false

/-- Whether a notice is a target notice from branch b. -/
def Notice.fromBranch (b : BranchId) (n : Notice) : Bool :=
  match n.source with
  | .target b' _ => b' == b
  | .alert _ => false

/-- Whether a notice is the alert notice of class c. -/
def Notice.ofClass (c : AlertKind) (n : Notice) : Bool :=
  match n.source with
  | .target _ _ => false
  | .alert c' => c' == c

/-- R101: the target notice count. -/
def State.targetCount (s : State) : Nat := s.notices.countP Notice.isTarget

/-- R109: the sequence number of the youngest target notice from branch b in the queue, or none. -/
def State.youngestFrom (s : State) (b : BranchId) : Option (BitVec 16) :=
  (s.notices.reverse.find? (Notice.fromBranch b)).map (·.seq)

/-- R146, R174: the set of branches whose level flags are set, bit b for branch b. -/
def State.levelSet (s : State) : Word :=
  placeFlag s.branches[(0 : BranchId)].level 0 ||| placeFlag s.branches[(1 : BranchId)].level 1
    ||| placeFlag s.branches[(2 : BranchId)].level 2 ||| placeFlag s.branches[(3 : BranchId)].level 3

/-- Whether any branch's level flag is set (R142). -/
def State.anyLevel (s : State) : Bool :=
  s.branches[(0 : BranchId)].level || s.branches[(1 : BranchId)].level || s.branches[(2 : BranchId)].level
    || s.branches[(3 : BranchId)].level

/-! ### Commit and windows -/

/-- R116: whether the commit controller is DRAINING. -/
def State.draining (s : State) : Bool :=
  match s.controller with
  | .idle => false
  | .draining _ => true

/-- R121: the drain condition. -/
def State.drained (s : State) : Bool :=
  !s.entries.toList.any Entry.counted && !s.branches.toList.any (fun br => br.queue.any Item.isPosted)

/-- R1: the branch of a window: a branch value 0 to 3 is B0 to B3, 4 is SINK. A valid record holds no other value (R3). -/
def Window.target (w : Window) : Option BranchId :=
  if h : w.branch.toNat < 4 then some ⟨w.branch.toNat, h⟩ else none

/-- R4: whether a record matches a page. -/
def Window.covers (w : Window) (p : Page) : Bool := w.valid && decide (w.base ≤ p) && decide (p ≤ w.limit)

/-- R3: the two checks of a valid record. -/
def Window.lawful (w : Window) : Bool := !w.valid || (decide (w.base ≤ w.limit) && decide (w.branch ≤ 4))

/-- R4: the page of an address: its upper 28 bits. -/
def pageOf (a : Address) : Page := a.extractLsb' 12 28

/-- R4: the matching window, the record of the ACTIVE bank with the lowest index that covers the page. -/
def State.matchWindow (s : State) (p : Page) : Option WindowId :=
  (List.finRange 32).find? (fun i => s.active[i].covers p)

/-- R1: whether a requester is in a mask. -/
def inMask (m : Word) (r : Requester) : Bool := m.getLsbD r

/-! ### Cause sets -/

/-- R9: the longest length of a kind. -/
def maxLength : MemKind → Nat
  | .np .xch => 2
  | _ => 32

/-- Whether a cause set of a group is not empty. -/
def FaultCauses.any : FaultCauses → Bool
  | .format k l a p => k || l || a || p
  | .permission r w p m o => r || w || p || m || o
  | .value b o => b || o
  | _ => true

/-- R9: the length field is in the range of the kind. -/
def lengthInRange (k : MemKind) (q : MemoryRequest) : Bool :=
  decide (q.length.toNat ≠ 0) && decide (q.length.toNat ≤ maxLength k)

/-- R9: the number of data words that a kind carries for its length: none for RD. -/
def expectedData (k : MemKind) (q : MemoryRequest) : Nat :=
  match k with
  | .np .rd => 0
  | _ => q.length.toNat

/-- R9: the byte range ends in a page other than the page of the address. -/
def crossesPage (a : Address) (length : Nat) : Bool := decide (4096 < a.toNat % 4096 + 4 * length)

/-- R9, R173: the format causes of a memory request. Without an address, LENGTH alone is evaluated and applies. -/
def formatCauses (k : MemKind) (q : MemoryRequest) : FaultCauses :=
  match q.address with
  | none => .format false true false false
  | some a =>
    .format false (!lengthInRange k q || decide (q.data.length ≠ expectedData k q)) (decide (a.toNat % 4 ≠ 0))
      (lengthInRange k q && crossesPage a q.length.toNat)

/-- R15: the permission causes of a memory request at a window. -/
def permissionCauses (k : MemKind) (r : Requester) (w : Window) : FaultCauses :=
  let noRead := !inMask w.readMask r
  let noWrite := !inMask w.writeMask r
  match k with
  | .np .rd => .permission noRead false false false false
  | .np .wrn => .permission false noWrite false false false
  | .wrp => .permission false noWrite (!w.posted) false false
  | .np .xch => .permission noRead noWrite false false false

end Sys2Proof.Machine
end

