-- ==== Sys2Proof/Machine/Ops.lean ====
section
/-! DEFINITION. The named operations that the commands share: sending, answering, notices, raises, faults, queue items, entries,
commit, losses, link up, resets, and taking a packet that a port has delivered. -/

namespace Sys2Proof.Machine

/-! ### Ports and frames -/

/-- The event begins: no frame has been sent in it yet (log 19). -/
def State.quiet (s : State) : State := { s with sent := [] }

/-- A port sends a frame. -/
def State.emit (s : State) (p : Port) (f : Frame) : State := { s with sent := s.sent ++ [(p, f)] }

/-- A branch replaced by a function of itself. -/
def State.modBranch (s : State) (b : BranchId) (f : Branch → Branch) : State :=
  { s with branches := s.branches.set b (f s.branches[b]) }

/-- The link fields of a port. -/
def State.link (s : State) : Port → LinkPort
  | .trunk => s.trunk.link
  | .branch b => s.branches[b].link

/-- The link fields of a port replaced. -/
def State.setLink (s : State) (p : Port) (l : LinkPort) : State :=
  match p with
  | .trunk => { s with trunk := { s.trunk with link := l } }
  | .branch b => s.modBranch b (fun br => { br with link := l })

/-- R167: a port can send a new DATA frame: it is UP and its replay list holds fewer than 16 frames. -/
def LinkPort.canSend (l : LinkPort) : Bool := l.up && decide (l.replay.length < Config.replayFrames)

/-- R167: a port sends a packet as a DATA frame with the next number and keeps it in its replay list; the acknowledgement timer
runs. -/
def State.sendData (s : State) (p : Port) (ws : List Word) : State :=
  let l := s.link p
  (s.setLink p { l with nextSend := l.nextSend + 1, replay := l.replay ++ [(l.nextSend, ws)], ackTimer := true }).emit p
    (.data l.nextSend ws)

/-- The branch port sends packets of a list of waiting ones, oldest first, while it can; the rest keep waiting (R172, log 10). -/
def State.sendWaiting (s : State) (b : BranchId) : List BranchPacket → State
  | [] => s.modBranch b (fun br => { br with toSend := [] })
  | p :: rest =>
    if s.branches[b].link.canSend then (s.sendData (.branch b) p.toWords).sendWaiting b rest
    else s.modBranch b (fun br => { br with toSend := p :: rest })

/-- R172: an engine hands a packet to its port, which sends it in the order handed. -/
def State.handToPort (s : State) (b : BranchId) (p : BranchPacket) : State :=
  s.sendWaiting b (s.branches[b].toSend ++ [p])

/-- R171: an answer is handed to the Trunk Port; while the trunk is DOWN it is discarded as it is handed. -/
def State.answer (s : State) (r : Requester) (t : Tag) (body : AnswerBody) : State :=
  if s.trunk.link.up then
    { s with trunk := { s.trunk with answers := s.trunk.answers ++ [{ requester := r, tag := t, body := body }] } }
  else s

/-! ### Notices, raises, faults -/

/-- R102, R103, R104: the queue takes a notice at its tail and gives it the next sequence number. -/
def State.pushNotice (s : State) (source : NoticeSource) (dest : Requester) (payload : List Word) : State :=
  { s with
    notices := s.notices ++ [{ seq := s.nextSeq, source := source, dest := dest, payload := payload }]
    nextSeq := s.nextSeq + 1 }

/-- One alert class replaced. -/
def State.putAlert (s : State) (c : AlertKind) (a : AlertClass) : State := { s with alerts := s.alerts.put c a }

/-- R104: a notice of class c with a detail is handed to the queue for the alert destination. -/
def State.pushAlert (s : State) (c : AlertKind) (detail : Word) : State := s.pushNotice (.alert c) s.alertDest [detail]

/-- R141: a raise of class c with a detail word. -/
def State.raise (s : State) (c : AlertKind) (detail : Word) : State :=
  let a := s.alerts.get c
  if a.raised.isSome then s
  else
    match a.enabled, a.marker with
    | true, .none => (s.putAlert c { a with raised := some detail, marker := .queued }).pushAlert c detail
    | _, .queued => s.putAlert c { a with raised := some detail, marker := .queuedOwed }
    | _, _ => s.putAlert c { a with raised := some detail }

/-- R135: a log takes a fault entry, or counts it as dropped when it holds 4; the count stays at 255. -/
def FaultLog.add (l : FaultLog) (f : FaultEntry) : FaultLog :=
  if l.entries.length < Config.logEntries then { l with entries := l.entries ++ [f] }
  else { l with drops := min (l.drops + 1) Config.dropLimit }

/-- The detail word that holds a requester (R174). -/
def requesterDetail (r : Requester) : Word := placeNat r 5 0

/-- R136: the alert class of a group 6 entry. -/
def FaultCauses.ownClass : FaultCauses → Option AlertKind
  | .undelivered _ => some .undelivered
  | .uncollected _ => some .uncollected
  | _ => none

/-- R135, R136: a fault entry is handed to the Fault and Alert Unit: the log takes it, a group 6 entry raises its own class, and
then FAULT is raised if the requester is strict at this moment. -/
def State.handFault (s : State) (f : FaultEntry) : State :=
  let s1 : State := { s with logs := s.logs.set f.requester (s.logs[f.requester].add f) }
  let s2 :=
    match f.causes.ownClass with
    | some c => s1.raise c (requesterDetail f.requester)
    | none => s1
  if s2.settings[f.requester].strict then s2.raise .fault (requesterDetail f.requester) else s2

/-! ### Branch queues -/

/-- R70: the level flag of a branch is brought up to date; when it goes from clear to set, LEVEL is raised with the set of branches
whose flags are set. -/
def State.syncLevel (s : State) (b : BranchId) : State :=
  let br := s.branches[b]
  let s1 := s.modBranch b (fun br => { br with level := br.atWatermark })
  if br.atWatermark && !br.level then s1.raise .level s1.levelSet else s1

/-- The queue of a branch replaced in an event that changes its item count (R59, R70). -/
def State.setQueue (s : State) (b : BranchId) (q : List Item) : State :=
  (s.modBranch b (fun br => { br with queue := q })).syncLevel b

/-- R55: an item joins a queue at its tail. -/
def State.appendItem (s : State) (b : BranchId) (it : Item) : State := s.setQueue b (s.branches[b].queue ++ [it])

/-- R67: a posted item of branch b that has left its queue is reported as UNDELIVERED with its reason. -/
def State.reportDrop (s : State) (b : BranchId) (p : PostedItem) (r : DropReason) : State :=
  s.handFault
    { causes := .undelivered r, requester := p.requester, kind := MemKind.wrp.code, tag := p.tag, address := some p.address,
      object := none, branch := some b, window := none, generation := p.generation }

/-- R72: the posted items of a queue are reported with BRANCH-LOST in queue order. -/
def State.reportLost (s : State) (b : BranchId) : List Item → State
  | [] => s
  | .posted p :: rest => (s.reportDrop b p .branchLost).reportLost b rest
  | .ref _ :: rest => s.reportLost b rest

/-! ### Deferred entries -/

/-- An entry replaced. -/
def State.setEntry (s : State) (n : EntryId) (e : Entry) : State := { s with entries := s.entries.set n e }

/-- R33: a live entry becomes COMPLETE: it records its fence from the Upward Notice Queue as it stands, and its collection timer
starts for the collection limit as it stands. -/
def LiveEntry.completed (l : LiveEntry) (status : ResultStatus) (data : List Word) (fence : Option (BitVec 16))
    (limit : BitVec 16) : LiveEntry :=
  { l with state := .complete { status := status, data := data, fence := fence, timer := limit } }

/-- R33: entry n, which holds l, becomes COMPLETE with a status and data. -/
def State.complete (s : State) (n : EntryId) (l : LiveEntry) (status : ResultStatus) (data : List Word) : State :=
  s.setEntry n (.live (l.completed status data (s.youngestFrom l.req.branch) s.collectionLimit))

/-- R107, R109: the departure of notice `seq` of branch b makes absent the fence of an entry of b that names it. -/
def Entry.unfence (b : BranchId) (seq : BitVec 16) (e : Entry) : Entry :=
  match e with
  | .live l =>
    match l.state with
    | .complete c =>
      if l.req.branch = b ∧ c.fence = some seq then .live { l with state := .complete { c with fence := none } } else .live l
    | _ => .live l
  | .free => .free

/-- R47: what a branch loss makes of an entry of the lost branch. -/
def LiveEntry.afterBranchLoss (l : LiveEntry) (fence : Option (BitVec 16)) (limit : BitVec 16) : Entry :=
  match l.state with
  | .complete _ => .live l
  | .disowned => .free
  | _ => .live (l.completed .branchReset [] fence limit)

/-- R47: what the loss of branch b makes of an entry. -/
def Entry.afterBranchLoss (b : BranchId) (fence : Option (BitVec 16)) (limit : BitVec 16) (e : Entry) : Entry :=
  match e with
  | .live l => if l.req.branch = b then l.afterBranchLoss fence limit else .live l
  | .free => .free

/-- R48: what a trunk loss makes of an entry. -/
def Entry.afterTrunkLoss (e : Entry) : Entry :=
  match e with
  | .live l =>
    match l.state with
    | .issued => .live { l with state := .disowned }
    | .disowned => .live l
    | _ => .free
  | .free => .free

/-- All entries replaced by a function of themselves. -/
def State.mapEntries (s : State) (f : Entry → Entry) : State :=
  { s with entries := Vector.ofFn (fun n : EntryId => f s.entries[n]) }

/-- All branches replaced by a function of themselves. -/
def State.mapBranches (s : State) (f : Branch → Branch) : State :=
  { s with branches := Vector.ofFn (fun b : BranchId => f s.branches[b]) }

/-! ### Commit -/

/-- R118: the swap: STAGED is copied into ACTIVE and the active generation goes up by one. -/
def State.swap (s : State) : State := { s with active := s.staged, generation := s.generation + 1 }

/-- A commit ends with an outcome: the controller is IDLE with its timer stopped, and COMMIT is raised with the outcome (R131). -/
def State.endCommit (s : State) (o : CommitOutcome) : State :=
  ({ s with controller := .idle, outcome := o } : State).raise .commit (placeNat o.code 32 0)

/-- R118, R119: a swap, and the commit ends with DONE. -/
def State.commitSwap (s : State) : State := s.swap.endCommit .done

/-- R122: at the end of an event that removes counted work: while DRAINING, when the drain condition holds, the drain ends. -/
def State.drainEnd (s : State) : State := if s.draining && s.drained then s.commitSwap else s

/-! ### Losses and link up -/

/-- R95: what a branch loss makes of a probe. -/
def Probe.afterLoss : Probe → Probe
  | .pending op a => .done op a .branchReset
  | .issued op a => .done op a .branchReset
  | p => p

/-- R81: what a branch loss leaves of the branch itself. -/
def Branch.afterLoss (br : Branch) : Branch :=
  { br with queue := [], level := false, outstanding := none, responseTimer := none, slot := none, probe := br.probe.afterLoss }

/-- R81, R47, R72: the loss of branch b. The entries of b that complete record the fence from the queue of notices as it stands; the
posted items are reported in queue order; the branch is emptied; and the loss may end a drain (R128). -/
def State.branchLoss (s : State) (b : BranchId) : State :=
  let s1 := s.mapEntries (Entry.afterBranchLoss b (s.youngestFrom b) s.collectionLimit)
  let s2 := s1.modBranch b Branch.afterLoss
  (s2.reportLost b s.branches[b].queue).drainEnd

/-- R73, R48, R99: what a trunk loss leaves of a branch: its posted items, and an empty retry slot. -/
def Branch.afterTrunkLoss (br : Branch) : Branch :=
  let q := br.queue.filter Item.isPosted
  { br with queue := q, slot := none, level := decide (br.watermark.toNat ≤ q.length) }

/-- R48, R73, R99, R129: the trunk loss at the entries, the queues and the commit controller. -/
def State.trunkLoss (s : State) : State :=
  ((s.mapEntries Entry.afterTrunkLoss).mapBranches Branch.afterTrunkLoss).drainEnd

/-- R170: the link fields of a port that loses its link: the replay list is discarded, the acknowledgement timer stops, and training
begins again. -/
def LinkPort.lose (l : LinkPort) : LinkPort :=
  { l with up := false, replay := [], ackTimer := false, trainRun := 0, readyRun := 0, ready := false, readySent := false }

/-- R172, R79: a branch port whose link goes DOWN discards every packet that was on its way. -/
def Branch.loseLink (br : Branch) : Branch := { br with link := br.link.lose, delivered := [], toSend := [] }

/-- R170, R171, R172: a port that is UP loses its link and reports it. On the trunk this is the trunk loss; on a branch that is
ACTIVE or HELD it is a branch loss. -/
def State.linkLost (s : State) (p : Port) : State :=
  match p with
  | .trunk =>
    ({ s with trunk := { link := s.trunk.link.lose, answers := [], delivered := [], lost := true } } : State).trunkLoss
  | .branch b =>
    let s1 := s.modBranch b Branch.loseLink
    if s.branches[b].carries then s1.branchLoss b else s1

/-- R169: the link fields at link up. -/
def LinkPort.raised (l : LinkPort) : LinkPort :=
  { l with
    up := true, nextSend := 0, expected := 0, replay := [], ackTimer := false, resendRounds := 0, checkFailures := 0,
    trainRun := 0, readyRun := 0, ready := false, readySent := false }

/-- R169, R146: a port comes UP. When the trunk comes UP after a trunk loss, RESTART is raised with TRUNK. -/
def State.comeUp (s : State) (p : Port) : State :=
  let s1 := s.setLink p (s.link p).raised
  match p with
  | .branch _ => s1
  | .trunk =>
    if s.trunk.lost then
      ({ s1 with trunk := { s1.trunk with lost := false } } : State).raise .restart (placeNat trunkCauseCode 32 0)
    else s1

/-! ### Resets -/

/-- R162, R163: every block takes its reset values under a cause, around a trunk port, and RESTART is raised with the cause at the
end. The model's own fields stay. -/
def State.resetAll (s : State) (cause : ResetCause) (trunk : TrunkPort) : State :=
  ({ State.cleared with trunk := trunk, resetCause := cause, sent := s.sent, fresh := s.fresh, pending := s.pending } : State).raise
    .restart (placeNat cause.code 32 0)

/-- R162: a hard reset: every port is DOWN and training, and the answer list is empty (R169, R171). -/
def State.hardReset (s : State) (cause : ResetCause) : State := s.resetAll cause TrunkPort.fresh

/-- R163, R169, R171: a managed reset: the trunk port keeps its link state, its link fields and its answer list, and discards the
delivered requests not yet taken; its count of check failures is 0 after every reset (R166, log 13). -/
def State.managedReset (s : State) : State :=
  s.resetAll .managed
    { s.trunk with link := { s.trunk.link with checkFailures := 0 }, delivered := [] }

/-! ### Taking what a port has delivered (log 2) -/

/-- R171: whether the Trunk Port hands a packet to the Management Unit; the others go to the Request Decoder. -/
def forManagement : TrunkPacket → Bool
  | .managementRead _ => true
  | .managementWrite _ => true
  | _ => false

/-- R164: whether a packet is an MW of PART with the action RESET. -/
def isPartReset : TrunkPacket → Bool
  | .managementWrite m => decide (m.object = some (ObjectClass.part.code, 0)) && decide (actionOf m.words = 1)
  | _ => false

/-- R164, R171 (log 2): the packet q, which waits, lets p be taken before it: p goes to the other block, or q is an MW PART RESET. -/
def letsPass (q p : TrunkPacket) : Bool := (forManagement q != forManagement p) || isPartReset q

/-- R8, R149, R164, R171: a block takes a trunk packet as one event. While the trunk is DOWN there is nothing to take. Every delivered
request before it lets it pass; when it is not among them, delivering and taking are one event, for which the port needs a place
(log 2). -/
def State.takeRequest (s : State) (p : TrunkPacket) (serve : State → State) : State :=
  if s.trunk.link.up && (s.trunk.delivered.takeWhile (fun q => q ≠ p)).all (fun q => letsPass q p) then
    if p ∈ s.trunk.delivered then serve { s with trunk := { s.trunk with delivered := s.trunk.delivered.erase p } }
    else if s.trunk.answers.length + s.trunk.delivered.length < Config.trunkPlaces then serve s
    else s
  else s

/-- R172: a branch engine takes a packet of its port as one event: the oldest delivered one, or, when none waits, one that is delivered
in the same event, for which the port needs a place (log 2). -/
def State.takeTarget (s : State) (b : BranchId) (p : TargetPacket) (serve : State → State) : State :=
  let br := s.branches[b]
  if br.carries then
    match br.delivered with
    | q :: rest => if q = p then serve (s.modBranch b (fun br => { br with delivered := rest })) else s
    | [] => if br.noticePlaces < Config.noticePlaces then serve s else s
  else s

end Sys2Proof.Machine
end

