-- ==== Sys2Proof/Machine/Engines.lean ====
section
/-! DEFINITION. The branch engines (04) with their queues (03): the choice and the issue, the end of an issue by an answer or by the
response timer, BNTC, discarded packets, and the retry and backoff intervals. -/

namespace Sys2Proof.Machine

/-! ### Issue -/

/-- R84, R89: a request becomes outstanding, the response timer starts for the response timeout as it stands, and the request is handed
to the port. -/
def State.issue (s : State) (b : BranchId) (o : Outstanding) (ws : List Word) : State :=
  (s.modBranch b (fun br => { br with outstanding := some o, responseTimer := some br.timeout })).handToPort b (.request ws)

/-- R28: a live entry is issued: ISSUED, and its attempts rise by one. -/
def LiveEntry.issued (l : LiveEntry) : LiveEntry := { l with state := .issued, attempts := l.attempts + 1 }

/-- R62: a posted item is issued: SENT, and its attempts rise by one. -/
def PostedItem.issued (p : PostedItem) : PostedItem := { p with state := .sent, attempts := p.attempts + 1 }

/-- R28: entry n is issued on branch b. -/
def State.issueEntry (s : State) (b : BranchId) (n : EntryId) : State :=
  match s.entries[n] with
  | .live l => (s.setEntry n (.live l.issued)).issue b (.entry n) l.req.issueWords
  | .free => s

/-- R85, R28, R62, R94: a chosen source is issued: the probe becomes ISSUED; the slot entry leaves the slot; a reference leaves the head
of the queue; a posted item stays at the head. -/
def State.issueSource (s : State) (b : BranchId) (src : Source) : State :=
  match src with
  | .probe op a => (s.modBranch b (fun br => { br with probe := .issued op a })).issue b .probe (op.issueWords a)
  | .slot n => (s.modBranch b (fun br => { br with slot := none })).issueEntry b n
  | .headRef n => (s.setQueue b s.branches[b].queue.tail).issueEntry b n
  | .headPosted p =>
    (s.modBranch b (fun br => { br with queue := .posted p.issued :: br.queue.tail })).issue b .posted p.issueWords

/-- R85, R86: the engine's choice. -/
def State.choose (s : State) (b : BranchId) : State :=
  match s.branches[b].choice with
  | some src => s.issueSource b src
  | none => s

/-! ### The end of an issue -/

/-- How an issue ends: an answer of the target, or the response timer (R89, R91). -/
inductive Ending where
  | done (words : List Word)
  | later
  | refuse
  | timeout
  deriving DecidableEq, Repr

/-- R84: the outstanding request ends: none is outstanding and the response timer stops. A branch request that the port had not yet
sent is not sent any more (R172, log 11). -/
def State.clearOutstanding (s : State) (b : BranchId) : State :=
  s.modBranch b (fun br =>
    { br with
      outstanding := none, responseTimer := none
      toSend := br.toSend.filter (fun p => match p with | .noticeAnswer _ => true | .request _ => false) })

/-- R29: the result data of a DONE: its words for an RD or XCH, none for a WRN. -/
def resultData (k : NpKind) (ws : List Word) : List Word :=
  match k with
  | .wrn => []
  | _ => ws

/-- R30: an ISSUED entry answered LATER below the budget takes the retry slot, whose interval starts. -/
def State.park (s : State) (b : BranchId) (n : EntryId) (l : LiveEntry) : State :=
  (s.setEntry n (.live { l with state := .waiting })).modBranch b
    (fun br => { br with slot := some { entry := n, interval := br.interval, passed := false } })

/-- R29 to R32: the issue of an ISSUED entry ends. -/
def State.endIssued (s : State) (b : BranchId) (n : EntryId) (l : LiveEntry) (e : Ending) : State :=
  match e with
  | .done ws => s.complete n l .ok (resultData l.req.kind ws)
  | .later => if l.attempts < s.branches[b].budget.toNat then s.park b n l else s.complete n l .exhausted []
  | .refuse => s.complete n l .refused []
  | .timeout => s.complete n l .unreached []

/-- R29 to R32, R34: the issue of an entry ends; a DISOWNED entry becomes FREE whatever the ending. -/
def State.endEntry (s : State) (b : BranchId) (n : EntryId) (e : Ending) : State :=
  match s.entries[n] with
  | .free => s
  | .live l =>
    match l.state with
    | .issued => s.endIssued b n l e
    | .disowned => s.setEntry n .free
    | _ => s

/-- R63 to R67: the posted item at the head leaves its queue with a drop. -/
def State.dropHead (s : State) (b : BranchId) (p : PostedItem) (rest : List Item) (r : DropReason) : State :=
  (s.setQueue b rest).reportDrop b p r

/-- R64: the posted item at the head enters BACKOFF for the retry interval as it stands. -/
def State.backOff (s : State) (b : BranchId) (p : PostedItem) (rest : List Item) : State :=
  s.modBranch b (fun br => { br with queue := .posted { p with state := .backoff br.interval } :: rest })

/-- R63 to R66: the issue of the posted item at the head ends. -/
def State.endPosted (s : State) (b : BranchId) (e : Ending) : State :=
  match s.branches[b].queue with
  | .posted p :: rest =>
    match e with
    | .done _ => s.setQueue b rest
    | .later => if p.attempts < s.branches[b].budget.toNat then s.backOff b p rest else s.dropHead b p rest .exhausted
    | .refuse => s.dropHead b p rest .refused
    | .timeout => s.dropHead b p rest .unreached
  | _ => s

/-- R94: a probe's result. -/
def Ending.probeResult (op : ProbeOperation) : Ending → ProbeResult
  | .done ws => .ok (match op with | .read => ws.head? | .write _ => none)
  | .later => .later
  | .refuse => .refused
  | .timeout => .unreached

/-- R94: the issue of the probe ends. -/
def Probe.finish (p : Probe) (e : Ending) : Probe :=
  match p with
  | .issued op a => .done op a (e.probeResult op)
  | p => p

/-- R89, R91: the outstanding request of branch b ends; the end of counted work may end a drain (R122). -/
def State.endIssue (s : State) (b : BranchId) (o : Outstanding) (e : Ending) : State :=
  let s1 := s.clearOutstanding b
  match o with
  | .entry n => (s1.endEntry b n e).drainEnd
  | .posted => (s1.endPosted b e).drainEnd
  | .probe => s1.modBranch b (fun br => { br with probe := br.probe.finish e })

/-- R91: the number of data words of a well-formed DONE: the issued length for BRD and BXC, none for BWR. -/
def State.doneWords (s : State) (b : BranchId) (o : Outstanding) : Nat :=
  match o with
  | .entry n =>
    match s.entries[n] with
    | .live l => (match l.req.kind with | .wrn => 0 | _ => l.req.length.toNat)
    | .free => 0
  | .posted => 0
  | .probe =>
    match s.branches[b].probe with
    | .issued .read _ => 1
    | _ => 0

/-- R91, R173: a well-formed answer: both the count field and the words equal what was issued for DONE, and 0 for LATER and REFUSE. -/
def answerWellFormed (a : TargetAnswer) (count : BitVec 6) (ws : List Word) (issued : Nat) : Bool :=
  match a with
  | .done => decide (count.toNat = issued) && decide (ws.length = issued)
  | _ => decide (count = 0) && decide (ws.length = 0)

/-- The ending that an answer is. -/
def endingOf (a : TargetAnswer) (ws : List Word) : Ending :=
  match a with
  | .done => .done ws
  | .later => .later
  | .refuse => .refuse

/-- R91, R92: the engine takes an answer: the first well-formed one ends the outstanding request; any other is discarded. -/
def State.takeAnswer (s : State) (b : BranchId) (a : TargetAnswer) (count : BitVec 6) (ws : List Word) : State :=
  match s.branches[b].outstanding with
  | none => s
  | some o => if answerWellFormed a count ws (s.doneWords b o) then s.endIssue b o (endingOf a ws) else s

/-- R96, R103: the engine takes a BNTC. A payload count above 4, or one that differs from the words, is discarded without an answer. -/
def State.takeNotice (s : State) (b : BranchId) (count : BitVec 3) (code : BitVec 8) (ws : List Word) : State :=
  if 4 < count.toNat ∨ count.toNat ≠ ws.length then s
  else if s.targetCount < Config.targetNotices then
    (s.pushNotice (.target b code) s.branches[b].dest ws).handToPort b (.noticeAnswer true)
  else s.handToPort b (.noticeAnswer false)

/-- R172: the engine takes a packet that its port delivers. -/
def State.serveTarget (s : State) (b : BranchId) (p : TargetPacket) : State :=
  match p with
  | .answer a count ws => s.takeAnswer b a count ws
  | .notice count code ws => s.takeNotice b count code ws
  | .other _ => s

/-! ### Intervals -/

/-- R88: the retry interval of the slot entry passes. -/
def Branch.passInterval (br : Branch) : Branch := { br with slot := br.slot.map (fun x => { x with passed := true }) }

/-- R64: the retry interval of the head in BACKOFF runs out. -/
def Branch.endBackoff (br : Branch) : Branch :=
  match br.queue with
  | .posted p :: rest =>
    match p.state with
    | .backoff _ => { br with queue := .posted { p with state := .ready } :: rest }
    | _ => br
  | _ => br

/-! ### Commands -/

/-- ENGINE_CHOICE: the engine makes its choice (R85). -/
def execEngineChoice (b : BranchId) (s : State) : Host.Outcome State Fault Refusal := .next (s.quiet.choose b)

/-- DONE: the engine takes a DONE from the target (R91). -/
def execDone (b : BranchId) (count : BitVec 6) (ws : List Word) (s : State) : Host.Outcome State Fault Refusal :=
  .next (s.quiet.takeTarget b (.answer .done count ws) (fun s => s.takeAnswer b .done count ws))

/-- LATER: the engine takes a LATER from the target (R91). -/
def execLater (b : BranchId) (count : BitVec 6) (ws : List Word) (s : State) : Host.Outcome State Fault Refusal :=
  .next (s.quiet.takeTarget b (.answer .later count ws) (fun s => s.takeAnswer b .later count ws))

/-- REFUSE: the engine takes a REFUSE from the target (R91). -/
def execRefuse (b : BranchId) (count : BitVec 6) (ws : List Word) (s : State) : Host.Outcome State Fault Refusal :=
  .next (s.quiet.takeTarget b (.answer .refuse count ws) (fun s => s.takeAnswer b .refuse count ws))

/-- BNTC: the engine takes a notice from the target (R96). -/
def execBntc (b : BranchId) (count : BitVec 3) (code : BitVec 8) (ws : List Word) (s : State) :
    Host.Outcome State Fault Refusal :=
  .next (s.quiet.takeTarget b (.notice count code ws) (fun s => s.takeNotice b count code ws))

/-- STRAY_TARGET_PACKET: the engine takes a packet that is no answer to it and no notice, and discards it (R92). What a packet is
depends on the packet and on what is outstanding, so the packet is judged as every packet of a branch is. -/
def execStrayTargetPacket (b : BranchId) (p : TargetPacket) (s : State) : Host.Outcome State Fault Refusal :=
  .next (s.quiet.takeTarget b p (fun s => s.serveTarget b p))

/-- RESPONSE_TIMEOUT: the response timer of branch b expires (R89); a stopped timer does not. -/
def execResponseTimeout (b : BranchId) (s : State) : Host.Outcome State Fault Refusal :=
  .next
    (match s.branches[b].outstanding, s.branches[b].responseTimer with
      | some o, some _ => s.quiet.endIssue b o .timeout
      | _, _ => s.quiet)

/-- RETRY_INTERVAL_PASSES: the retry interval of the slot entry passes (R88). -/
def execRetryIntervalPasses (b : BranchId) (s : State) : Host.Outcome State Fault Refusal :=
  .next (s.quiet.modBranch b Branch.passInterval)

/-- BACKOFF_INTERVAL_ENDS: the retry interval of the posted item in BACKOFF runs out (R64). -/
def execBackoffIntervalEnds (b : BranchId) (s : State) : Host.Outcome State Fault Refusal :=
  .next (s.quiet.modBranch b Branch.endBackoff)

end Sys2Proof.Machine
end

