-- ==== Sys2Proof/Machine/Links.lean ====
section
/-! DEFINITION. The Trunk Port's choice (05) and the Segment Link of the five ports (09): TRANSMIT_CHOICE, DATA_FRAME, ACK, RESEND,
TRAIN, TRAIN_FRAME_SEND, CHECK_FAILURE, ACKNOWLEDGEMENT_TIMER_EXPIRY, SIGNAL_ABSENT. -/

namespace Sys2Proof.Machine

/-! ### The trunk's transmitter -/

/-- R143: the departure of the notice of class c at its class. -/
def State.alertDeparts (s : State) (c : AlertKind) : State :=
  let a := s.alerts.get c
  match a.marker, a.raised, a.enabled with
  | .queuedOwed, some detail, true => (s.putAlert c { a with marker := .queued }).pushAlert c detail
  | _, _, _ => s.putAlert c { a with marker := .none }

/-- R107: the departure of a notice at the blocks that wait on it. -/
def State.noticeDeparts (s : State) (n : Notice) : State :=
  match n.source with
  | .target b _ => s.mapEntries (Entry.unfence b n.seq)
  | .alert c => s.alertDeparts c

/-- R106: the Trunk Port's choice: the oldest answer, or else the head notice, when the trunk is UP and can send. -/
def State.transmit (s : State) : State :=
  if s.trunk.link.canSend then
    match s.trunk.answers, s.notices with
    | a :: rest, _ => ({ s with trunk := { s.trunk with answers := rest } } : State).sendData .trunk a.toWords
    | [], n :: rest => (({ s with notices := rest } : State).sendData .trunk n.toWords).noticeDeparts n
    | [], [] => s
  else s

/-! ### Receiving frames -/

/-- The link fields of a port changed by a function. -/
def State.modLink (s : State) (p : Port) (f : LinkPort → LinkPort) : State := s.setLink p (f (s.link p))

/-- R171, R172: a port has a place for a packet with the number expected. -/
def State.hasPlace (s : State) (p : Port) : Bool :=
  match p with
  | .trunk => decide (s.trunk.answers.length + s.trunk.delivered.length < Config.trunkPlaces)
  | .branch b => decide (s.branches[b].noticePlaces < Config.noticePlaces)

/-- R168, R171, R172: a packet is delivered: it waits at its port until its block takes it. -/
def State.deliver (s : State) (p : Port) (ws : List Word) : State :=
  match p with
  | .trunk => { s with trunk := { s.trunk with delivered := s.trunk.delivered ++ [TrunkPacket.ofWords ws] } }
  | .branch b => s.modBranch b (fun br => { br with delivered := br.delivered ++ [TargetPacket.ofWords ws] })

/-- R168: a DATA frame that passes its check arrives on a port that is UP. One of the 16 numbers before the one expected is acknowledged
again; before any frame has been accepted the number that this ACK names is the model's choice (log 22). -/
def State.receiveData (s : State) (p : Port) (number : BitVec 8) (ws : List Word) : State :=
  let expected := (s.link p).expected
  if number = expected then
    if s.hasPlace p then
      ((s.deliver p ws).modLink p (fun l => { l with expected := l.expected + 1 })).emit p (.ack number)
    else s
  else if (expected - number).toNat ≤ 16 then s.emit p (.ack (expected - 1))
  else s.emit p (.resend expected)

/-- R167: the frames after the one with a number, when a replay list holds it. -/
def afterNumber (n : BitVec 8) : List (BitVec 8 × List Word) → Option (List (BitVec 8 × List Word))
  | [] => none
  | f :: rest => if f.1 = n then some rest else afterNumber n rest

/-- R167: the frames from the one with a number to the newest; none when the list does not hold it. -/
def fromNumber (n : BitVec 8) : List (BitVec 8 × List Word) → List (BitVec 8 × List Word)
  | [] => []
  | f :: rest => if f.1 = n then f :: rest else fromNumber n rest

/-- R167: the link fields after an ACK that leaves a replay list: the acknowledgement timer restarts or stops, and the count of resend
rounds is 0. -/
def LinkPort.acknowledged (l : LinkPort) (rest : List (BitVec 8 × List Word)) : LinkPort :=
  { l with replay := rest, ackTimer := !rest.isEmpty, resendRounds := 0 }

/-- A branch port that has room again sends what waits (log 10); the trunk port waits for TRANSMIT_CHOICE. -/
def State.roomFreed (s : State) (p : Port) : State :=
  match p with
  | .trunk => s
  | .branch b => s.sendWaiting b s.branches[b].toSend

/-- R167: an ACK arrives on a port that is UP. -/
def State.receiveAck (s : State) (p : Port) (n : BitVec 8) : State :=
  match afterNumber n (s.link p).replay with
  | none => s
  | some rest => (s.modLink p (fun l => l.acknowledged rest)).roomFreed p

/-- R167: a port sends frames of its replay list again, with their numbers and packets. -/
def State.sendAgain (s : State) (p : Port) (fs : List (BitVec 8 × List Word)) : State :=
  { s with sent := s.sent ++ fs.map (fun f => (p, .data f.1 f.2)) }

/-- R169: a port is allowed to train: the trunk always, a branch whenever its reset flag is clear. -/
def State.mayTrain (s : State) (p : Port) : Bool :=
  match p with
  | .trunk => true
  | .branch b => !s.branches[b].reset

/-- R169: a port comes UP when it has received 4 TRAIN frames in a row with the ready flag, and has sent one. -/
def State.upIfTrained (s : State) (p : Port) : State :=
  if 4 ≤ (s.link p).readyRun && (s.link p).readySent then s.comeUp p else s

/-- R169: the runs of a DOWN port after a TRAIN frame; the ready flag is set once 2 have been received in a row. -/
def LinkPort.trained (l : LinkPort) (ready : Bool) : LinkPort :=
  let run := min (l.trainRun + 1) 2
  { l with trainRun := run, readyRun := if ready then min (l.readyRun + 1) 4 else 0, ready := l.ready || decide (2 ≤ run) }

/-- R169: a broken run on a DOWN port: the ready flag is cleared and both runs start again. -/
def LinkPort.breakRun (l : LinkPort) : LinkPort := { l with trainRun := 0, readyRun := 0, ready := false }

/-- R166 to R170: a frame that passes its check arrives on a port. -/
def State.receive (s : State) (p : Port) (f : Frame) : State :=
  let s1 := s.modLink p (fun l => { l with checkFailures := 0 })
  if (s.link p).up then
    match f with
    | .data n ws => s1.receiveData p n ws
    | .ack n => s1.receiveAck p n
    | .resend n => s1.sendAgain p (fromNumber n (s.link p).replay)
    | .train _ => s1.linkLost p
  else
    match f with
    | .train ready => if s.mayTrain p then (s1.modLink p (fun l => l.trained ready)).upIfTrained p else s1
    | _ => s1.modLink p LinkPort.breakRun

/-- R166, R169: a frame that fails its check arrives on a port: it is counted; an UP port sends a RESEND, and loses its link at a count
of 8; on a DOWN port it breaks the runs. -/
def State.receiveFailure (s : State) (p : Port) : State :=
  let l := s.link p
  let s1 := s.modLink p (fun l => { l with checkFailures := l.checkFailures + 1 })
  if l.up then
    let s2 := s1.emit p (.resend l.expected)
    if Config.failureLimit ≤ l.checkFailures + 1 then s2.linkLost p else s2
  else s1.modLink p LinkPort.breakRun

/-- R165, R166: words arrive on a port: a frame that passes its check, or one that fails it. -/
def State.receiveWords (s : State) (p : Port) (raw : List Word) : State :=
  match Frame.ofWords raw with
  | some f => s.receive p f
  | none => s.receiveFailure p

/-- R167: the acknowledgement timer of an UP port expires: the fourth resend round in a row has expired, and the link is lost (log 12);
or the replay list is sent again and the round is counted. -/
def State.expireAck (s : State) (p : Port) : State :=
  let l := s.link p
  if l.up && l.ackTimer then
    if Config.resendLimit ≤ l.resendRounds then s.linkLost p
    else (s.modLink p (fun l => { l with resendRounds := l.resendRounds + 1 })).sendAgain p l.replay
  else s

/-- R169: a DOWN port that is allowed to train sends its next TRAIN frame with its ready flag. -/
def State.sendTrain (s : State) (p : Port) : State :=
  let l := s.link p
  if !l.up && s.mayTrain p then
    ((s.emit p (.train l.ready)).modLink p (fun l => { l with readySent := l.readySent || l.ready })).upIfTrained p
  else s

/-- R170: the signal is absent: a port that is UP loses its link. -/
def State.signalLost (s : State) (p : Port) : State := if (s.link p).up then s.linkLost p else s

/-! ### Commands -/

/-- TRANSMIT_CHOICE (R106). -/
def execTransmitChoice (s : State) : Host.Outcome State Fault Refusal := .next s.quiet.transmit

/-- DATA_FRAME: a DATA frame arrives (R168). A DATA frame of no words, or of more than 40, is one that fails its check (R165). -/
def execDataFrame (p : Port) (number : BitVec 8) (ws : List Word) (s : State) : Host.Outcome State Fault Refusal :=
  .next
    (if ws.isEmpty || decide (Config.frameWords < ws.length) then s.quiet.receiveFailure p
      else s.quiet.receive p (.data number ws))

/-- ACK: an ACK frame arrives (R167). -/
def execAck (p : Port) (number : BitVec 8) (s : State) : Host.Outcome State Fault Refusal :=
  .next (s.quiet.receive p (.ack number))

/-- RESEND: a RESEND frame arrives (R167). -/
def execResend (p : Port) (number : BitVec 8) (s : State) : Host.Outcome State Fault Refusal :=
  .next (s.quiet.receive p (.resend number))

/-- TRAIN: a TRAIN frame arrives (R169, R170). -/
def execTrain (p : Port) (ready : Bool) (s : State) : Host.Outcome State Fault Refusal :=
  .next (s.quiet.receive p (.train ready))

/-- TRAIN_FRAME_SEND: a DOWN port sends its next TRAIN frame (R169). -/
def execTrainFrameSend (p : Port) (s : State) : Host.Outcome State Fault Refusal := .next (s.quiet.sendTrain p)

/-- CHECK_FAILURE: words arrive that fail the check (R166). -/
def execCheckFailure (p : Port) (raw : List Word) (s : State) : Host.Outcome State Fault Refusal :=
  .next (s.quiet.receiveWords p raw)

/-- ACKNOWLEDGEMENT_TIMER_EXPIRY (R167). -/
def execAcknowledgementTimerExpiry (p : Port) (s : State) : Host.Outcome State Fault Refusal := .next (s.quiet.expireAck p)

/-- SIGNAL_ABSENT (R170). -/
def execSignalAbsent (p : Port) (s : State) : Host.Outcome State Fault Refusal := .next (s.quiet.signalLost p)

end Sys2Proof.Machine
end

