-- ==== Sys2Proof/Machine/Management.lean ====
section
/-! DEFINITION. The Management Unit (08): the check order of MR and MW, what an MR returns, what an accepted MW does, and the commands
MANAGEMENT_READ to PART_RESET. -/

namespace Sys2Proof.Machine

/-! ### Objects -/

/-- A management object that exists (R152). -/
inductive Object where
  | ident
  | winStaged (i : WindowId)
  | winActive (i : WindowId)
  | commit
  | req (r : Requester)
  | fault (r : Requester)
  | branch (b : BranchId)
  | probe (b : BranchId)
  | entry (n : EntryId)
  | alert
  | timing
  | part
  deriving DecidableEq, Repr

/-- An index in a range. -/
def indexIn (n : Nat) (i : BitVec 8) : Option (Fin n) := if h : i.toNat < n then some ⟨i.toNat, h⟩ else none

/-- R152: the object that a class and an index name, or none (NO-OBJECT). -/
def Object.find (c i : BitVec 8) : Option Object :=
  match ObjectClass.ofCode c with
  | none => none
  | some .ident => if i = 0 then some .ident else none
  | some .winStaged => (indexIn 32 i).map .winStaged
  | some .winActive => (indexIn 32 i).map .winActive
  | some .commit => if i = 0 then some .commit else none
  | some .req => (indexIn 32 i).map .req
  | some .fault => (indexIn 32 i).map .fault
  | some .branch => (indexIn 4 i).map .branch
  | some .probe => (indexIn 4 i).map .probe
  | some .entry => (indexIn 16 i).map .entry
  | some .alert => if i = 0 then some .alert else none
  | some .timing => if i = 0 then some .timing else none
  | some .part => if i = 0 then some .part else none

/-- R151: the record length of a class. -/
def recordLength : ObjectClass → Nat
  | .ident => 4
  | .winStaged => 4
  | .winActive => 4
  | .commit => 2
  | .req => 2
  | .fault => 4
  | .branch => 4
  | .probe => 4
  | .entry => 8
  | .alert => 2
  | .timing => 2
  | .part => 2

/-- R153: the classes that cannot be written. -/
def Object.readOnly : Object → Bool
  | .ident => true
  | .winActive _ => true
  | .entry _ => true
  | _ => false

/-! ### Checks -/

/-- R151, R173: LENGTH applies to a management request. -/
def lengthFault (write : Bool) (m : ManagementRequest) : Bool :=
  let carried := if write then decide (m.words.length ≠ m.length.toNat) else !m.words.isEmpty
  match m.object with
  | none => true
  | some (c, _) =>
    match ObjectClass.ofCode c with
    | some k => decide (m.length.toNat ≠ recordLength k) || carried
    | none => decide (m.length.toNat = 0) || decide (8 < m.length.toNat) || carried

/-- R154: requester r is the only member of the manager set. -/
def State.onlyManager (s : State) (r : Requester) : Bool :=
  s.settings[r].manager && (List.finRange 32).all (fun x => x == r || !s.settings[x].manager)

/-- R155: BAD-VALUE applies to the written record. -/
def State.badValue (s : State) (o : Object) (ws : List Word) : Bool :=
  match o with
  | .winStaged _ => !(Window.ofWords ws).lawful
  | .commit => decide (actionOf ws = 0) || decide (4 < actionOf ws)
  | .req r =>
    let v := RequesterSettings.ofWords ws
    decide (16 < v.quota) || (!v.manager && s.onlyManager r)
  | .fault _ => decide (actionOf ws ≠ 1)
  | .branch _ =>
    let v := BranchSettings.ofWords ws
    decide (v.budget = 0) || decide (v.interval = 0) || decide (v.timeout = 0) || decide (v.watermark = 0)
      || decide (16 < v.watermark)
  | .probe _ =>
    match probeOfWords ws with
    | none => true
    | some (_, a) => decide (a.toNat % 4 ≠ 0)
  | .timing => decide (bits (wordAt ws 0) 0 16 = 0) || decide (bits (wordAt ws 1) 0 16 = 0)
  | .part => decide (actionOf ws ≠ 1)
  | _ => false

/-- R93: a probe is PENDING or ISSUED. -/
def Probe.busy : Probe → Bool
  | .pending _ _ => true
  | .issued _ _ => true
  | _ => false

/-- R156: OBJECT-BUSY applies to the written action. -/
def State.objectBusy (s : State) (o : Object) (ws : List Word) : Bool :=
  match o with
  | .winStaged _ => s.draining
  | .commit => s.draining && (decide (actionOf ws = 1) || decide (actionOf ws = 2) || decide (actionOf ws = 4))
  | .probe b => s.branches[b].probe.busy
  | _ => false

/-- R150: a refused management request: its fault is handed over, and it is answered with the group's status. -/
def State.refuseManagement (s : State) (kind : BitVec 8) (m : ManagementRequest) (c : FaultCauses) (status : CplStatus) : State :=
  (s.handFault
    { causes := c, requester := m.requester, kind := kind, tag := m.tag, address := none, object := m.object, branch := none,
      window := none, generation := s.generation }).answer m.requester m.tag (.completion status [])

/-! ### Reading -/

/-- R157: the record of an object as it stands. -/
def State.record (s : State) (o : Object) : List Word :=
  match o with
  | .ident => identRecord
  | .winStaged i => s.staged[i].toWords
  | .winActive i => s.active[i].toWords
  | .commit => commitRecord s.draining s.outcome s.generation
  | .req r => reqRecord s.settings[r] (s.entryCount r) s.logs[r].entries.length
  | .fault r => faultRecord s.logs[r]
  | .branch b =>
    let br := s.branches[b]
    branchRecord br br.state.code br.queue.length (queueWords br.queue)
  | .probe b => probeRecord s.branches[b].probe
  | .entry n =>
    entryRecord s.entries[n]
      (match s.entries[n] with
        | .live l => match l.state with | .complete c => s.timeLeft c.timer | _ => 0
        | .free => 0)
  | .alert => alertRecord s.alerts s.alertDest
  | .timing => timingRecord s.collectionLimit s.drainLimit
  | .part => partRecord s.resetCause

/-- The counter of the free values moves on when a read has used one (log 5). -/
def State.afterRead (s : State) (o : Object) : State :=
  match o with
  | .entry _ => { s with fresh := s.fresh + 1 }
  | _ => s

/-- R149 to R157: the Management Unit takes an MR. -/
def State.serveRead (s : State) (m : ManagementRequest) : State :=
  if lengthFault false m then s.refuseManagement kindMr m (.format false true false false) .format
  else
    match m.object.bind (fun o => Object.find o.1 o.2) with
    | none => s.refuseManagement kindMr m .noObject .unclaimed
    | some o => (s.afterRead o).answer m.requester m.tag (.completion .ok (s.record o))

/-! ### Writing -/

/-- R120: DRAIN in IDLE: a swap at once when the drain condition holds, else DRAINING, with the drain timer started for the drain
limit as it stands. -/
def State.startDrain (s : State) : State :=
  if s.drained then s.commitSwap else { s with controller := .draining s.drainLimit }

/-- R124: CANCEL ends a drain in progress without a swap; in IDLE it changes nothing. -/
def State.cancelDrain (s : State) : State := if s.draining then s.endCommit .cancelled else s

/-- R119 to R125: the action of an accepted MW of COMMIT. -/
def State.commitAction (s : State) (action : BitVec 4) : State :=
  if action = 1 then s.commitSwap
  else if action = 2 then s.startDrain
  else if action = 3 then s.cancelDrain
  else if action = 4 then { s with staged := s.active }
  else s

/-- R138: TAKE: the oldest entry of the log is removed, and then the drop count is cleared if the choice is yes. -/
def FaultLog.take (l : FaultLog) (clear : Bool) : FaultLog :=
  { entries := l.entries.tail, drops := if clear then 0 else l.drops }

/-- R93: an accepted MW of PROBE: the record takes the new fields, PENDING on a branch that is ACTIVE or HELD, and else DONE with
UNAVAILABLE. -/
def Branch.startProbe (br : Branch) (op : ProbeOperation) (a : Address) : Branch :=
  { br with probe := if br.carries then .pending op a else .done op a .unavailable }

/-- R98: the settings of an MW of BRANCH are stored. -/
def Branch.store (br : Branch) (v : BranchSettings) : Branch :=
  { br with budget := v.budget, interval := v.interval, timeout := v.timeout, watermark := v.watermark, dest := v.dest }

/-- R80: the flags of an MW of BRANCH are stored. -/
def Branch.setFlags (br : Branch) (hold reset : Bool) : Branch := { br with hold := hold, reset := reset }

/-- R79, R170: when the reset flag goes from clear to set, the branch link is stopped; when it goes from set to clear, the link begins
to train, from the state in which it was stopped. -/
def State.applyFlags (s : State) (b : BranchId) (hold reset : Bool) : State :=
  let br := s.branches[b]
  let s1 := s.modBranch b (fun br => br.setFlags hold reset)
  if reset && !br.reset then
    let s2 := s1.modBranch b Branch.loseLink
    if br.carries then s2.branchLoss b else s2
  else s1

/-- R71, R98, R80: an accepted MW of BRANCH[b]: the settings first, the level flag when the watermark has changed, and then the state
change that the flags cause. -/
def State.writeBranch (s : State) (b : BranchId) (v : BranchSettings) : State :=
  let s1 := s.modBranch b (fun br => br.store v)
  let s2 := if s.branches[b].watermark = v.watermark then s1 else s1.syncLevel b
  s2.applyFlags b v.hold v.reset

/-- R142: an acknowledgement of class c clears its raised flag and detail; a QUEUED-OWED marker becomes QUEUED. -/
def AlertClass.acknowledge (a : AlertClass) : AlertClass :=
  if a.raised.isSome then { a with raised := none, marker := if a.marker = .queuedOwed then .queued else a.marker } else a

/-- R142: the classes of the acknowledge set are acknowledged, and LEVEL is raised again when it is among them and a level flag is
set. -/
def State.acknowledge (s : State) (ws : List Word) : State :=
  let s1 := AlertKind.all.foldl (fun s c => if ackFlag ws c then s.putAlert c (s.alerts.get c).acknowledge else s) s
  if ackFlag ws .level && s1.anyLevel then s1.raise .level s1.levelSet else s1

/-- R144: the enabled flag of class c is written; a raised class that is newly enabled with marker NONE queues its notice. -/
def State.enable (s : State) (c : AlertKind) (flag : Bool) : State :=
  let a := s.alerts.get c
  match flag && !a.enabled, a.raised, a.marker with
  | true, some detail, .none => (s.putAlert c { a with enabled := true, marker := .queued }).pushAlert c detail
  | _, _, _ => s.putAlert c { a with enabled := flag }

/-- R145: an accepted MW of ALERT: the destination, then the acknowledgements, then the enables in ascending class number. -/
def State.writeAlert (s : State) (ws : List Word) : State :=
  let s1 := ({ s with alertDest := alertDestOf ws } : State).acknowledge ws
  AlertKind.all.foldl (fun s c => s.enable c (enableFlag ws c)) s1

/-- R157: the effect of an accepted MW on the object it names. A read-only object and an operation that no code names are refused
before. -/
def State.applyWrite (s : State) (o : Object) (ws : List Word) : State :=
  match o with
  | .winStaged i => { s with staged := s.staged.set i (Window.ofWords ws) }
  | .commit => s.commitAction (actionOf ws)
  | .req r => { s with settings := s.settings.set r (RequesterSettings.ofWords ws) }
  | .fault r => { s with logs := s.logs.set r (s.logs[r].take (clearDropOf ws)) }
  | .branch b => s.writeBranch b (BranchSettings.ofWords ws)
  | .probe b =>
    match probeOfWords ws with
    | some (op, a) => s.modBranch b (fun br => br.startProbe op a)
    | none => s
  | .alert => s.writeAlert ws
  | .timing => { s with collectionLimit := bits (wordAt ws 0) 0 16, drainLimit := bits (wordAt ws 1) 0 16 }
  | .part => s.managedReset
  | _ => s

/-- R149 to R157: the Management Unit takes an MW: the check order, and then CPL OK and the effect, in one event. The answer is handed
over first, as R163 asks of PART RESET; no other effect touches the answer list. -/
def State.serveWrite (s : State) (m : ManagementRequest) : State :=
  if lengthFault true m then s.refuseManagement kindMw m (.format false true false false) .format
  else
    match m.object.bind (fun o => Object.find o.1 o.2) with
    | none => s.refuseManagement kindMw m .noObject .unclaimed
    | some o =>
      let notManager := !s.settings[m.requester].manager
      if notManager || o.readOnly then
        s.refuseManagement kindMw m (.permission false false false notManager o.readOnly) .denied
      else
        let bad := s.badValue o m.words
        let busy := s.objectBusy o m.words
        if bad || busy then s.refuseManagement kindMw m (.value bad busy) (if bad then .badValue else .objectBusy)
        else (s.answer m.requester m.tag (.completion .ok [])).applyWrite o m.words

/-- The Management Unit takes an MW packet that the trunk has delivered (R149). -/
def State.takeWrite (s : State) (m : ManagementRequest) : State :=
  s.quiet.takeRequest (.managementWrite m) (fun s => s.serveWrite m)

/-- MANAGEMENT_READ: the Management Unit takes an MR (R157). -/
def execManagementRead (m : ManagementRequest) (s : State) : Host.Outcome State Fault Refusal :=
  .next (s.quiet.takeRequest (.managementRead m) (fun s => s.serveRead m))

/-- MANAGEMENT_WRITE: the Management Unit takes an MW whose object has no behaviour of its own (R150). -/
def execManagementWrite (m : ManagementRequest) (s : State) : Host.Outcome State Fault Refusal := .next (s.takeWrite m)

/-- WIN_STAGED_WRITE: an MW to WIN-STAGED (R3, R117). -/
def execWinStagedWrite (m : ObjectWrite) (s : State) : Host.Outcome State Fault Refusal :=
  .next (s.takeWrite (objectRequest m .winStaged))

/-- IMMEDIATE: an MW of COMMIT with action 1 (R119). -/
def execImmediate (m : ObjectWrite) (s : State) : Host.Outcome State Fault Refusal :=
  .next (s.takeWrite (objectRequest (objectWithField m 0 0 4 1) .commit))

/-- DRAIN: an MW of COMMIT with action 2 (R120). -/
def execDrain (m : ObjectWrite) (s : State) : Host.Outcome State Fault Refusal :=
  .next (s.takeWrite (objectRequest (objectWithField m 0 0 4 2) .commit))

/-- CANCEL: an MW of COMMIT with action 3 (R124). -/
def execCancel (m : ObjectWrite) (s : State) : Host.Outcome State Fault Refusal :=
  .next (s.takeWrite (objectRequest (objectWithField m 0 0 4 3) .commit))

/-- REVERT: an MW of COMMIT with action 4 (R125). -/
def execRevert (m : ObjectWrite) (s : State) : Host.Outcome State Fault Refusal :=
  .next (s.takeWrite (objectRequest (objectWithField m 0 0 4 4) .commit))

/-- REQ_WRITE: an MW to REQ (R160). -/
def execReqWrite (m : ObjectWrite) (s : State) : Host.Outcome State Fault Refusal :=
  .next (s.takeWrite (objectRequest m .req))

/-- TAKE: an MW of FAULT with action 1 (R138). -/
def execTake (m : ObjectWrite) (s : State) : Host.Outcome State Fault Refusal :=
  .next (s.takeWrite (objectRequest (objectWithField m 0 0 4 1) .fault))

/-- BRANCH_SETTINGS_WRITE: an MW to BRANCH (R98). -/
def execBranchSettingsWrite (m : ObjectWrite) (s : State) : Host.Outcome State Fault Refusal :=
  .next (s.takeWrite (objectRequest m .branch))

/-- HOLD_FLAG_SET: an MW to BRANCH whose record sets the hold flag (R83). -/
def execHoldFlagSet (m : ObjectWrite) (s : State) : Host.Outcome State Fault Refusal :=
  .next (s.takeWrite (objectRequest (objectWithField m 1 16 1 1) .branch))

/-- HOLD_FLAG_CLEARED: an MW to BRANCH whose record clears the hold flag (R80). -/
def execHoldFlagCleared (m : ObjectWrite) (s : State) : Host.Outcome State Fault Refusal :=
  .next (s.takeWrite (objectRequest (objectWithField m 1 16 1 0) .branch))

/-- RESET_FLAG_SET: an MW to BRANCH whose record sets the reset flag (R80). -/
def execResetFlagSet (m : ObjectWrite) (s : State) : Host.Outcome State Fault Refusal :=
  .next (s.takeWrite (objectRequest (objectWithField m 1 17 1 1) .branch))

/-- RESET_FLAG_CLEARED: an MW to BRANCH whose record clears the reset flag (R79). -/
def execResetFlagCleared (m : ObjectWrite) (s : State) : Host.Outcome State Fault Refusal :=
  .next (s.takeWrite (objectRequest (objectWithField m 1 17 1 0) .branch))

/-- PROBE_READ: an MW to PROBE with operation READ (R93). -/
def execProbeRead (m : ObjectWrite) (s : State) : Host.Outcome State Fault Refusal :=
  .next (s.takeWrite (objectRequest (objectWithField m 0 0 2 1) .probe))

/-- PROBE_WRITE: an MW to PROBE with operation WRITE (R93). -/
def execProbeWrite (m : ObjectWrite) (s : State) : Host.Outcome State Fault Refusal :=
  .next (s.takeWrite (objectRequest (objectWithField m 0 0 2 2) .probe))

/-- ALERT_ACKNOWLEDGE: an MW of ALERT, whose acknowledge set this row names (R142). -/
def execAlertAcknowledge (m : ObjectWrite) (s : State) : Host.Outcome State Fault Refusal :=
  .next (s.takeWrite (objectRequest m .alert))

/-- ALERT_ENABLE: an MW of ALERT, whose enabled flags this row names (R144). -/
def execAlertEnable (m : ObjectWrite) (s : State) : Host.Outcome State Fault Refusal :=
  .next (s.takeWrite (objectRequest m .alert))

/-- TIMING_WRITE: an MW to TIMING (R161). -/
def execTimingWrite (m : ObjectWrite) (s : State) : Host.Outcome State Fault Refusal :=
  .next (s.takeWrite (objectRequest m .timing))

/-- PART_RESET: an MW of PART with the action RESET (R163). -/
def execPartReset (m : ObjectWrite) (s : State) : Host.Outcome State Fault Refusal :=
  .next (s.takeWrite (objectRequest (objectWithField m 0 0 4 1) .part))

end Sys2Proof.Machine
end

