-- ==== Sys2Proof/Machine/Requests.lean ====
section
/-! DEFINITION. The Request Decoder (01) and the Deferred Request Table's answers to it (02): READ, CONFIRMED_WRITE, POSTED_WRITE,
EXCHANGE, ABANDON, UNKNOWN_KIND. -/

namespace Sys2Proof.Machine

/-- The data words of a success on words that hold all ones (R17, R18). -/
def absorbedData (k : MemKind) (length : Nat) : List Word :=
  match k with
  | .np .rd => List.replicate length allOnes
  | .np .xch => List.replicate length allOnes
  | _ => []

/-- R17, R18: the answer of a SINK window, which a lenient requester's decode or permission fault receives too. -/
def absorbedAnswer (k : MemKind) (length : Nat) : AnswerBody :=
  match k with
  | .wrp => .taken
  | .np _ => .completion .ok (absorbedData k length)

/-- R10: a malformed request is answered CPL FORMAT and its fault is handed over. -/
def State.refuseFormat (s : State) (c : FaultCauses) (kind : BitVec 8) (r : Requester) (t : Tag) (a : Option Address) : State :=
  (s.handFault
    { causes := c, requester := r, kind := kind, tag := t, address := a, object := none, branch := none, window := none,
      generation := s.generation }).answer r t (.completion .format [])

/-- R16, R17: a decode or permission fault: logged alike; a strict requester is answered with the status, a lenient one as if the
request had succeeded on all-ones words. -/
def State.refuseDecode (s : State) (k : MemKind) (q : MemoryRequest) (a : Address) (c : FaultCauses) (status : CplStatus)
    (branch : Option BranchId) (window : Option WindowId) : State :=
  let s1 := s.handFault
    { causes := c, requester := q.requester, kind := k.code, tag := q.tag, address := some a, object := none, branch := branch,
      window := window, generation := s.generation }
  if s.settings[q.requester].strict then s1.answer q.requester q.tag (.completion status [])
  else s1.answer q.requester q.tag (absorbedAnswer k q.length.toNat)

/-- R21: an accepted non-posted request fills a FREE entry as QUEUED, its reference joins the branch queue, and it is answered
DEF. Which FREE entry is a free value (log 4). -/
def State.accept (s : State) (n : EntryId) (k : NpKind) (q : MemoryRequest) (a : Address) (b : BranchId) : State :=
  let req : EntryRequest :=
    { requester := q.requester, tag := q.tag, kind := k, address := a, length := q.length, data := q.data, branch := b,
      generation := s.generation }
  let s1 := ({ s with fresh := s.fresh + 1 } : State).setEntry n (.live { req := req, attempts := 0, state := .queued })
  (s1.appendItem b (.ref n)).answer q.requester q.tag .deferred

/-- R22: an accepted WRP joins the branch queue as a posted item and is answered TAKEN. -/
def State.acceptPosted (s : State) (q : MemoryRequest) (a : Address) (b : BranchId) : State :=
  (s.appendItem b
    (.posted
      { requester := q.requester, tag := q.tag, address := a, length := q.length, data := q.data, generation := s.generation,
        attempts := 0, state := .ready })).answer q.requester q.tag .taken

/-- R19: the capacity check of a non-posted request: the reason of the first lacking resource, or the FREE entry to fill. -/
def State.roomForEntry (s : State) (r : Requester) (b : BranchId) : BusyReason ⊕ EntryId :=
  match s.pickFree with
  | none => .inl .tableFull
  | some n =>
    if s.settings[r].quota.toNat ≤ s.entryCount r then .inl .quota
    else if Config.queueItems ≤ s.branches[b].queue.length then .inl .queueFull
    else .inr n

/-- R20: the capacity check of a WRP: the reason of the first lacking resource, if there is one. -/
def State.lacksForPosted (s : State) (q : MemoryRequest) (b : BranchId) : Option BusyReason :=
  if Config.queueItems ≤ s.branches[b].queue.length then some .queueFull
  else if Config.queueWords < queueWords s.branches[b].queue + q.length.toNat then some .words
  else none

/-- R19 to R22: stages 7 and 8 at a branch. -/
def State.takeIn (s : State) (k : MemKind) (q : MemoryRequest) (a : Address) (b : BranchId) : State :=
  match k with
  | .np nk =>
    match s.roomForEntry q.requester b with
    | .inl reason => s.answer q.requester q.tag (.busy reason)
    | .inr n => s.accept n nk q a b
  | .wrp =>
    match s.lacksForPosted q b with
    | some reason => s.answer q.requester q.tag (.busy reason)
    | none => s.acceptPosted q a b

/-- R14: the branch of a window is DOWN or RESET. -/
def State.unavailable (s : State) (b : BranchId) : Bool := !s.branches[b].carries

/-- R15 to R22: stages 5 to 8 at a matching window. -/
def State.decodeAt (s : State) (k : MemKind) (q : MemoryRequest) (a : Address) (i : WindowId) : State :=
  let w := s.active[i]
  let c := permissionCauses k q.requester w
  if c.any then s.refuseDecode k q a c .denied w.target (some i)
  else
    match w.target with
    | none => s.answer q.requester q.tag (absorbedAnswer k q.length.toNat)
    | some b => s.takeIn k q a b

/-- R13 to R22: stages 3 to 8: the draining refusal, the decode group, and what follows at the matching window. -/
def State.decodeNew (s : State) (k : MemKind) (q : MemoryRequest) (a : Address) : State :=
  if s.draining then s.answer q.requester q.tag (.busy .draining)
  else
    match s.matchWindow (pageOf a) with
    | none => s.refuseDecode k q a .unclaimed .unclaimed none none
    | some i =>
      match s.active[i].target with
      | some b => if s.unavailable b then s.refuseDecode k q a .unavailable .unavailable (some b) (some i) else s.decodeAt k q a i
      | none => s.decodeAt k q a i

/-- R36 to R38: a repeat is answered from its entry. -/
def State.answerRepeat (s : State) (n : EntryId) (l : LiveEntry) : State :=
  match l.state with
  | .complete c =>
    match c.fence with
    | none => (s.setEntry n .free).answer l.req.requester l.req.tag (.completion c.status.cpl c.data)
    | some _ =>
      (s.setEntry n (.live { l with state := .complete { c with timer := s.collectionLimit } })).answer l.req.requester l.req.tag
        .deferred
  | _ => s.answer l.req.requester l.req.tag .deferred

/-- R35: the kind, address and length of a request equal the entry's. -/
def LiveEntry.sameRequest (l : LiveEntry) (k : NpKind) (q : MemoryRequest) (a : Address) : Bool :=
  l.req.kind == k && l.req.address == a && l.req.length == q.length

/-- R12: a request whose pair has a live entry: a held tag, a repeat, or a conflict. -/
def State.matchEntry (s : State) (n : EntryId) (l : LiveEntry) (k : NpKind) (q : MemoryRequest) (a : Address) : State :=
  if l.state = .disowned then s.answer q.requester q.tag (.busy .tagHeld)
  else if l.sameRequest k q a then s.answerRepeat n l
  else
    (s.handFault
      { causes := .conflict, requester := q.requester, kind := k.code, tag := q.tag, address := some a, object := none,
        branch := none, window := none, generation := s.generation }).answer q.requester q.tag (.completion .conflict [])

/-- R12: stage 2 for a non-posted request, and what follows when the pair has no live entry. -/
def State.decodeNonPosted (s : State) (k : NpKind) (q : MemoryRequest) (a : Address) : State :=
  match s.findEntry q.requester q.tag with
  | none => s.decodeNew (.np k) q a
  | some n =>
    match s.entries[n] with
    | .free => s.decodeNew (.np k) q a
    | .live l => s.matchEntry n l k q a

/-- R8 to R22: the Request Decoder decodes a memory request as one event, through the check order to one answer. -/
def State.decodeMemory (s : State) (k : MemKind) (q : MemoryRequest) : State :=
  let c := formatCauses k q
  match q.address with
  | none => s.refuseFormat c k.code q.requester q.tag none
  | some a =>
    if c.any then s.refuseFormat c k.code q.requester q.tag (some a)
    else
      match k with
      | .np nk => s.decodeNonPosted nk q a
      | .wrp => s.decodeNew .wrp q a

/-- R42 to R46: what an ABN makes of its entry and of the relay, before its answer. -/
def State.abandonEntry (s : State) (n : EntryId) (l : LiveEntry) : State :=
  match l.state with
  | .queued =>
    (s.setEntry n .free).setQueue l.req.branch (s.branches[l.req.branch].queue.filter (fun it => it ≠ .ref n))
  | .waiting => (s.setEntry n .free).modBranch l.req.branch (fun br => { br with slot := none })
  | .issued => s.setEntry n (.live { l with state := .disowned })
  | .complete _ => s.setEntry n .free
  | .disowned => s

/-- R11, R42 to R46: an ABN is format-checked and handed to the Deferred Request Table; it may end a drain (R121). -/
def State.decodeAbandon (s : State) (r : Requester) (t : Tag) (extra : Nat) : State :=
  if extra ≠ 0 then s.refuseFormat (.format false true false false) kindAbn r t none
  else
    match s.findEntry r t with
    | none => s.answer r t (.completion .noEntry [])
    | some n =>
      match s.entries[n] with
      | .free => s.answer r t (.completion .noEntry [])
      | .live l =>
        if l.state = .disowned then s.answer r t (.completion .noEntry [])
        else (s.abandonEntry n l).drainEnd.answer r t (.completion .ok [])

/-- READ: the Request Decoder takes an RD (R12). -/
def execRead (q : MemoryRequest) (s : State) : Host.Outcome State Fault Refusal :=
  .next (s.quiet.takeRequest (.memory (.np .rd) q) (fun s => s.decodeMemory (.np .rd) q))

/-- CONFIRMED_WRITE: the Request Decoder takes a WRN (R12). -/
def execConfirmedWrite (q : MemoryRequest) (s : State) : Host.Outcome State Fault Refusal :=
  .next (s.quiet.takeRequest (.memory (.np .wrn) q) (fun s => s.decodeMemory (.np .wrn) q))

/-- POSTED_WRITE: the Request Decoder takes a WRP (R22). -/
def execPostedWrite (q : MemoryRequest) (s : State) : Host.Outcome State Fault Refusal :=
  .next (s.quiet.takeRequest (.memory .wrp q) (fun s => s.decodeMemory .wrp q))

/-- EXCHANGE: the Request Decoder takes an XCH (R12). -/
def execExchange (q : MemoryRequest) (s : State) : Host.Outcome State Fault Refusal :=
  .next (s.quiet.takeRequest (.memory (.np .xch) q) (fun s => s.decodeMemory (.np .xch) q))

/-- ABANDON: the Request Decoder takes an ABN (R11). -/
def execAbandon (r : Requester) (t : Tag) (extra : Nat) (s : State) : Host.Outcome State Fault Refusal :=
  .next (s.quiet.takeRequest (.abandon r t extra) (fun s => s.decodeAbandon r t extra))

/-- UNKNOWN_KIND: a trunk packet whose kind is not a request kind is answered CPL FORMAT with cause KIND (R9, R10). -/
def execUnknownKind (kind : BitVec 8) (r : Requester) (t : Tag) (s : State) : Host.Outcome State Fault Refusal :=
  .next (s.quiet.takeRequest (.unknown kind r t) (fun s => s.refuseFormat (.format true false false false) kind r t none))

end Sys2Proof.Machine
end

