-- ==== Sys2Proof/Machine/Resets.lean ====
section
/-! DEFINITION. The hard resets: HARD_RESET and POWER_UP (R162). -/

namespace Sys2Proof.Machine

/-- HARD_RESET: RSTN is asserted while power is held: a hard reset with cause PIN (R162). -/
def execHardReset (s : State) : Host.Outcome State Fault Refusal := .next (s.quiet.hardReset .pin)

/-- POWER_UP: power is applied: a hard reset with cause POWER (R162). -/
def execPowerUp (s : State) : Host.Outcome State Fault Refusal := .next (s.quiet.hardReset .power)

end Sys2Proof.Machine
end

