-- ==== Sys2Proof/Machine/Timers.lean ====
section
/-! DEFINITION. The timers of the Deferred Request Table and of the commit controller: COLLECTION_TIMER_EXPIRY and
DRAIN_TIMER_EXPIRY. -/

namespace Sys2Proof.Machine

/-- R41: the UNCOLLECTED fault entry of an entry whose result is discarded. -/
def LiveEntry.uncollected (l : LiveEntry) (held : ResultStatus) : FaultEntry :=
  { causes := .uncollected held, requester := l.req.requester, kind := l.req.kind.code, tag := l.req.tag,
    address := some l.req.address, object := none, branch := some l.req.branch, window := none, generation := l.req.generation }

/-- R41: the collection timer of entry n expires: the entry becomes FREE and its fault is handed over. The timer of an entry that is not
COMPLETE does not run. -/
def State.expireCollection (s : State) (n : EntryId) : State :=
  match s.entries[n] with
  | .live l =>
    match l.state with
    | .complete c => (s.setEntry n .free).handFault (l.uncollected c.status)
    | _ => s
  | .free => s

/-- R123: the drain timer expires: the drain ends without a swap. -/
def State.expireDrain (s : State) : State := if s.draining then s.endCommit .timedOut else s

/-- COLLECTION_TIMER_EXPIRY (R41). -/
def execCollectionTimerExpiry (n : EntryId) (s : State) : Host.Outcome State Fault Refusal :=
  .next (s.quiet.expireCollection n)

/-- DRAIN_TIMER_EXPIRY (R123). -/
def execDrainTimerExpiry (s : State) : Host.Outcome State Fault Refusal := .next s.quiet.expireDrain

end Sys2Proof.Machine
end

