-- ==== Sys2Proof/Machine/Dispatch.lean ====
section
/-! DEFINITION. The dispatch: one arm for each command of spec/opcode_table.json. -/

namespace Sys2Proof.Machine

/-- The effect of a command on everything but the queue. -/
def exec (i : Instr) (s : State) : Host.Outcome State Fault Refusal :=
  match i with
  | .read q => Sys2Proof.Machine.execRead q s
  | .confirmedWrite q => Sys2Proof.Machine.execConfirmedWrite q s
  | .postedWrite q => Sys2Proof.Machine.execPostedWrite q s
  | .exchange q => Sys2Proof.Machine.execExchange q s
  | .abandon r t x => Sys2Proof.Machine.execAbandon r t x s
  | .unknownKind k r t => Sys2Proof.Machine.execUnknownKind k r t s
  | .managementRead m => Sys2Proof.Machine.execManagementRead m s
  | .managementWrite m => Sys2Proof.Machine.execManagementWrite m s
  | .winStagedWrite m => Sys2Proof.Machine.execWinStagedWrite m s
  | .immediate m => Sys2Proof.Machine.execImmediate m s
  | .drain m => Sys2Proof.Machine.execDrain m s
  | .cancel m => Sys2Proof.Machine.execCancel m s
  | .revert m => Sys2Proof.Machine.execRevert m s
  | .reqWrite m => Sys2Proof.Machine.execReqWrite m s
  | .take m => Sys2Proof.Machine.execTake m s
  | .branchSettingsWrite m => Sys2Proof.Machine.execBranchSettingsWrite m s
  | .holdFlagSet m => Sys2Proof.Machine.execHoldFlagSet m s
  | .holdFlagCleared m => Sys2Proof.Machine.execHoldFlagCleared m s
  | .resetFlagSet m => Sys2Proof.Machine.execResetFlagSet m s
  | .resetFlagCleared m => Sys2Proof.Machine.execResetFlagCleared m s
  | .probeRead m => Sys2Proof.Machine.execProbeRead m s
  | .probeWrite m => Sys2Proof.Machine.execProbeWrite m s
  | .alertAcknowledge m => Sys2Proof.Machine.execAlertAcknowledge m s
  | .alertEnable m => Sys2Proof.Machine.execAlertEnable m s
  | .timingWrite m => Sys2Proof.Machine.execTimingWrite m s
  | .partReset m => Sys2Proof.Machine.execPartReset m s
  | .hardReset => Sys2Proof.Machine.execHardReset s
  | .powerUp => Sys2Proof.Machine.execPowerUp s
  | .engineChoice b => Sys2Proof.Machine.execEngineChoice b s
  | .done b c ws => Sys2Proof.Machine.execDone b c ws s
  | .later b c ws => Sys2Proof.Machine.execLater b c ws s
  | .refuse b c ws => Sys2Proof.Machine.execRefuse b c ws s
  | .bntc b c k ws => Sys2Proof.Machine.execBntc b c k ws s
  | .strayTargetPacket b p => Sys2Proof.Machine.execStrayTargetPacket b p s
  | .responseTimeout b => Sys2Proof.Machine.execResponseTimeout b s
  | .retryIntervalPasses b => Sys2Proof.Machine.execRetryIntervalPasses b s
  | .backoffIntervalEnds b => Sys2Proof.Machine.execBackoffIntervalEnds b s
  | .collectionTimerExpiry n => Sys2Proof.Machine.execCollectionTimerExpiry n s
  | .drainTimerExpiry => Sys2Proof.Machine.execDrainTimerExpiry s
  | .transmitChoice => Sys2Proof.Machine.execTransmitChoice s
  | .dataFrame p n ws => Sys2Proof.Machine.execDataFrame p n ws s
  | .ack p n => Sys2Proof.Machine.execAck p n s
  | .resend p n => Sys2Proof.Machine.execResend p n s
  | .train p f => Sys2Proof.Machine.execTrain p f s
  | .trainFrameSend p => Sys2Proof.Machine.execTrainFrameSend p s
  | .checkFailure p ws => Sys2Proof.Machine.execCheckFailure p ws s
  | .acknowledgementTimerExpiry p => Sys2Proof.Machine.execAcknowledgementTimerExpiry p s
  | .signalAbsent p => Sys2Proof.Machine.execSignalAbsent p s

end Sys2Proof.Machine
end

