-- ==== Sys2Proof/Safety.lean ====
section
/-! DEFINITION. The laws of the device and the other facts that every step keeps; and the terms in which the claims say when a command
has its effect. -/

namespace Sys2Proof.Machine

/-- Every step from a state with I that gives a next state gives one with I. -/
def Kept (I : State → Prop) : Prop := ∀ s t : State, I s → step s = .next t → I t

/-- R3: every valid window record in either bank has base page ≤ limit page and names a branch B0 to B3 or SINK. -/
def State.WindowLaw (s : State) : Prop :=
  ∀ i : WindowId, s.staged[i].lawful = true ∧ s.active[i].lawful = true

/-- The pair (requester, tag) of a non-FREE entry. -/
def Entry.pair : Entry → Option (Requester × Tag)
  | .live l => some (l.req.requester, l.req.tag)
  | .free => none

/-- R27: no two non-FREE entries carry the same requester and tag. -/
def State.PairLaw (s : State) : Prop :=
  ∀ m n : EntryId, s.entries[m].pair.isSome = true → s.entries[m].pair = s.entries[n].pair → m = n

/-- R56: a branch queue never holds more than 16 items, nor more than 256 words of posted data. -/
def State.QueueLaw (s : State) : Prop :=
  ∀ b : BranchId, s.branches[b].queue.length ≤ 16 ∧ queueWords s.branches[b].queue ≤ 256

/-- R105, R140, R141: never more than 26 target notices; one alert notice of a class while its marker is QUEUED or QUEUED-OWED, none
while it is NONE; and a class whose marker is QUEUED-OWED is raised. -/
def State.NoticeLaw (s : State) : Prop :=
  s.targetCount ≤ 26 ∧
    ∀ c ∈ AlertKind.all,
      s.notices.countP (Notice.ofClass c) = (if (s.alerts.get c).marker = .none then 0 else 1)
        ∧ ((s.alerts.get c).marker = .queuedOwed → (s.alerts.get c).raised.isSome = true)

/-- R154: the manager set is never empty. -/
def State.ManagerLaw (s : State) : Prop := ∃ r : Requester, s.settings[r].manager = true

/-- The branch and the fence of a COMPLETE entry that holds one. -/
def Entry.fenceOf : Entry → Option (BranchId × BitVec 16)
  | .live l =>
    match l.state with
    | .complete c => c.fence.map (fun f => (l.req.branch, f))
    | _ => none
  | .free => none

/-- R109: a fence that is present names a target notice of the entry's branch that is still in the queue. -/
def State.FenceLaw (s : State) : Prop :=
  ∀ n : EntryId, ∀ x ∈ s.entries[n].fenceOf, ∃ m ∈ s.notices, Notice.fromBranch x.1 m = true ∧ m.seq = x.2

/-- R135: a log holds at most 4 entries, and its drop count is at most 255. -/
def State.LogLaw (s : State) : Prop := ∀ r : Requester, s.logs[r].entries.length ≤ 4 ∧ s.logs[r].drops ≤ 255

/-- R98, R148: every setting is in its range. -/
def State.SettingsLaw (s : State) : Prop :=
  (∀ b : BranchId, s.branches[b].budget ≠ 0 ∧ s.branches[b].interval ≠ 0 ∧ s.branches[b].timeout ≠ 0
      ∧ s.branches[b].watermark ≠ 0 ∧ s.branches[b].watermark ≤ 16)
    ∧ (∀ r : Requester, s.settings[r].quota ≤ 16) ∧ s.collectionLimit ≠ 0 ∧ s.drainLimit ≠ 0

/-- R70: the level flag of each branch is set exactly while its item count is equal to or above its watermark. -/
def State.LevelLaw (s : State) : Prop := ∀ b : BranchId, s.branches[b].level = s.branches[b].atWatermark

/-- R24: whether an entry is QUEUED on branch b. -/
def Entry.queuedOn (b : BranchId) : Entry → Bool
  | .live l => l.req.branch == b && l.state == .queued
  | .free => false

/-- R24: whether an entry is WAITING on branch b. -/
def Entry.waitingOn (b : BranchId) : Entry → Bool
  | .live l => l.req.branch == b && l.state == .waiting
  | .free => false

/-- R24: whether an entry is ISSUED or DISOWNED on branch b. -/
def Entry.outOn (b : BranchId) : Entry → Bool
  | .live l => l.req.branch == b && (l.state == .issued || l.state == .disowned)
  | .free => false

/-- Whether an item is a posted item in SENT. -/
def Item.isSent : Item → Bool
  | .posted p => p.state == .sent
  | .ref _ => false

/-- R58: an item behind the head is a reference or a posted item in READY. -/
def Item.waits : Item → Bool
  | .posted p => p.state == .ready
  | .ref _ => true

/-- Whether a probe is ISSUED. -/
def Probe.isIssued : Probe → Bool
  | .issued _ _ => true
  | _ => false

/-- R24: each QUEUED entry has one reference, in the queue of its branch, and no other entry has one; an entry is the outstanding
request of its branch exactly while it is ISSUED or DISOWNED, and in the retry slot exactly while it is WAITING. -/
def State.EntryPlaces (s : State) : Prop :=
  ∀ b : BranchId, ∀ n : EntryId,
    s.branches[b].queue.count (.ref n) = (if s.entries[n].queuedOn b then 1 else 0)
      ∧ (s.branches[b].outstanding = some (.entry n) ↔ s.entries[n].outOn b = true)
      ∧ (s.branches[b].slot.map (·.entry) = some n ↔ s.entries[n].waitingOn b = true)

/-- R58, R84, R87, R89, R94: the posted head is SENT exactly while it is outstanding and every item behind the head waits; the probe is
ISSUED exactly while it is outstanding; the response timer runs exactly while a request is outstanding; and the retry slot is empty
while an entry is outstanding. -/
def State.EngineLaw (s : State) : Prop :=
  ∀ b : BranchId,
    (s.branches[b].outstanding = some .posted ↔ (s.branches[b].queue.head?.any Item.isSent) = true)
      ∧ (∀ it ∈ s.branches[b].queue.tail, it.waits = true)
      ∧ (s.branches[b].outstanding = some .probe ↔ s.branches[b].probe.isIssued = true)
      ∧ s.branches[b].responseTimer.isSome = s.branches[b].outstanding.isSome
      ∧ (∀ n : EntryId, s.branches[b].outstanding = some (.entry n) → s.branches[b].slot = none)

/-- R81, R47, R79: a branch that is DOWN or RESET holds nothing, no entry of it is QUEUED, WAITING, ISSUED or DISOWNED, and a branch
whose reset flag is set has its link DOWN. -/
def State.DownLaw (s : State) : Prop :=
  ∀ b : BranchId,
    (s.branches[b].reset = true → s.branches[b].link.up = false)
      ∧ (s.branches[b].link.up = false →
          s.branches[b].queue = [] ∧ s.branches[b].outstanding = none ∧ s.branches[b].slot = none
            ∧ s.branches[b].probe.afterLoss = s.branches[b].probe
            ∧ ∀ n : EntryId, (s.entries[n].queuedOn b || s.entries[n].waitingOn b || s.entries[n].outOn b) = false)

/-- Whether an entry is FREE or DISOWNED. -/
def Entry.goneOrDisowned : Entry → Bool
  | .live l => l.state == .disowned
  | .free => true

/-- R48: while the trunk is DOWN the table holds only DISOWNED entries. -/
def State.TrunkDownLaw (s : State) : Prop :=
  s.trunk.link.up = false → ∀ n : EntryId, s.entries[n].goneOrDisowned = true

/-- R121, R122: while the controller is DRAINING the drain condition does not hold. -/
def State.DrainLaw (s : State) : Prop := s.draining = true → s.drained = false

/-- R167, R169: a replay list holds at most 16 frames and is empty while the port is DOWN; the acknowledgement timer runs exactly while
it holds a frame; an UP port has counted fewer than 8 check failures and at most 4 resend rounds. -/
def LinkPort.lawful (l : LinkPort) : Bool :=
  decide (l.replay.length ≤ 16) && (l.up || l.replay.isEmpty) && (l.ackTimer == !l.replay.isEmpty)
    && (!l.up || (decide (l.checkFailures < 8) && decide (l.resendRounds ≤ 4)))

/-- R172: the branch requests among the packets handed and not yet sent. -/
def Branch.waitingRequests (br : Branch) : Nat :=
  br.toSend.countP (fun p => match p with | .request _ => true | .noticeAnswer _ => false)

/-- R171, R172: the bounds of the five ports, and what a port whose link is DOWN holds. -/
def State.PortLaw (s : State) : Prop :=
  s.trunk.link.lawful = true ∧ s.trunk.answers.length + s.trunk.delivered.length ≤ 32
    ∧ (s.trunk.link.up = false → s.trunk.answers = [] ∧ s.trunk.delivered = [])
    ∧ ∀ b : BranchId,
        s.branches[b].link.lawful = true ∧ s.branches[b].noticePlaces ≤ 16
          ∧ s.branches[b].waitingRequests ≤ (if s.branches[b].outstanding.isSome then 1 else 0)
          ∧ (s.branches[b].link.up = false → s.branches[b].delivered = [] ∧ s.branches[b].toSend = [])

/-! ### The terms of the claims about one command -/

/-- R164, R171 (log 2): the delivered packet q lets p be taken before it: one of them goes to the Management Unit and the other to the
Request Decoder, or q is an MW of PART with the action RESET. -/
def LetsPass (q p : TrunkPacket) : Prop :=
  ((∃ m, q = .managementRead m ∨ q = .managementWrite m) ↔ ¬ ∃ m, p = .managementRead m ∨ p = .managementWrite m)
    ∨ ∃ m, q = .managementWrite m ∧ m.object = some (12, 0) ∧ actionOf m.words = 1

/-- R8, R149, R164, R171 (log 2): in s the trunk packet p can be taken by its block, and u is s after it has been handed over: the trunk
is UP, and p is a delivered request that every one before it lets pass; or p is not among the delivered requests, all of them let it
pass, and the trunk port has a place. No frame has been sent in the event yet. -/
def State.Offers (s : State) (p : TrunkPacket) (u : State) : Prop :=
  s.trunk.link.up = true
    ∧ ((∃ before rest, s.trunk.delivered = before ++ p :: rest ∧ (∀ q ∈ before, q ≠ p ∧ LetsPass q p)
          ∧ u = { s with sent := [], trunk := { s.trunk with delivered := before ++ rest } })
      ∨ ((∀ q ∈ s.trunk.delivered, q ≠ p ∧ LetsPass q p) ∧ s.trunk.answers.length + s.trunk.delivered.length < 32
          ∧ u = { s with sent := [] }))

/-- R172, R79 (log 2): in s the packet p of branch b can be taken by its engine, and u is s after it has been handed over: the branch is
ACTIVE or HELD, and p is the oldest delivered packet, or none waits and the branch port has a place. -/
def State.OffersTarget (s : State) (b : BranchId) (p : TargetPacket) (u : State) : Prop :=
  s.branches[b].link.up = true ∧ s.branches[b].reset = false
    ∧ ((∃ rest, s.branches[b].delivered = p :: rest
          ∧ u = { s with sent := [], branches := s.branches.set b { s.branches[b] with delivered := rest } })
      ∨ (s.branches[b].delivered = [] ∧ s.branches[b].noticePlaces < 16 ∧ u = { s with sent := [] }))

/-- The command that takes a memory request of a kind. -/
def memoryCommand : MemKind → MemoryRequest → Instr
  | .np .rd => .read
  | .np .wrn => .confirmedWrite
  | .np .xch => .exchange
  | .wrp => .postedWrite

/-- The command that takes an answer of branch b's target. -/
def answerCommand (b : BranchId) : TargetAnswer → BitVec 6 → List Word → Instr
  | .done => .done b
  | .later => .later b
  | .refuse => .refuse b

/-- R9: a request without a format cause, at the address a: its length is in the range of its kind, it carries the data words of its
kind, its address is aligned, and its byte range stays in its page. -/
def WellFormedAt (k : MemKind) (q : MemoryRequest) (a : Address) : Prop :=
  q.address = some a ∧ 1 ≤ q.length.toNat ∧ q.length.toNat ≤ (if k = .np .xch then 2 else 32)
    ∧ q.data.length = (if k = .np .rd then 0 else q.length.toNat) ∧ a.toNat % 4 = 0
    ∧ (a.toNat + 4 * q.length.toNat - 1) / 4096 = a.toNat / 4096

/-- R12: a well-formed request that goes on to stage 3: a WRP, or a non-posted request whose pair has no live entry. -/
def State.ReachesStage3 (u : State) (k : MemKind) (q : MemoryRequest) (a : Address) : Prop :=
  WellFormedAt k q a ∧ (k ≠ .wrp → ∀ n : EntryId, u.entries[n].holds q.requester q.tag = false)

/-- R4: window i is the matching window of an address: it covers the page, and none of a lower index does. -/
def State.Matches (u : State) (a : Address) (i : WindowId) : Prop :=
  u.active[i].covers (pageOf a) = true ∧ ∀ j : WindowId, j < i → u.active[j].covers (pageOf a) = false

/-- R15: a window permits a requester a kind. -/
def Window.permits (w : Window) (k : MemKind) (r : Requester) : Prop :=
  match k with
  | .np .rd => inMask w.readMask r = true
  | .np .wrn => inMask w.writeMask r = true
  | .np .xch => inMask w.readMask r = true ∧ inMask w.writeMask r = true
  | .wrp => inMask w.writeMask r = true ∧ w.posted = true

/-- R14, R15, R18: a request that passes stages 3 to 5 at window i. -/
def State.Passes (u : State) (k : MemKind) (q : MemoryRequest) (a : Address) (i : WindowId) : Prop :=
  u.ReachesStage3 k q a ∧ u.controller = .idle ∧ u.Matches a i ∧ u.active[i].permits k q.requester

/-- R17, R18: the answer as if a request had succeeded on words that hold all ones. -/
def AllOnesAnswer (k : MemKind) (q : MemoryRequest) : AnswerBody :=
  match k with
  | .wrp => .taken
  | .np .wrn => .completion .ok []
  | _ => .completion .ok (List.replicate q.length.toNat 0xFFFFFFFF#32)

/-- The fault entry of a memory request (R133). -/
def memoryFault (u : State) (k : MemKind) (q : MemoryRequest) (c : FaultCauses) (branch : Option BranchId)
    (window : Option WindowId) : FaultEntry :=
  { causes := c, requester := q.requester, kind := k.code, tag := q.tag, address := q.address, object := none, branch := branch,
    window := window, generation := u.generation }

/-- R150: an MW to class c with a record of n words that passes the format group, from a manager, is offered. -/
def State.Writes (s : State) (m : ObjectWrite) (c : ObjectClass) (n : Nat) (u : State) : Prop :=
  s.Offers (.managementWrite (objectRequest m c)) u ∧ m.length.toNat = n ∧ m.words.length = n
    ∧ u.settings[m.requester].manager = true

/-- R157: the MW is answered CPL OK with no data. -/
def State.answerOk (u : State) (m : ObjectWrite) : State := u.answer m.requester m.tag (.completion .ok [])

/-- R150: the MW to class c is refused for its value group, with the causes given. -/
def State.refuseValue (u : State) (m : ObjectWrite) (c : ObjectClass) (badValue objectBusy : Bool) : State :=
  u.refuseManagement kindMw (objectRequest m c) (.value badValue objectBusy) (if badValue then .badValue else .objectBusy)

/-- R80, R98 (log 3): the five rows that write BRANCH: the command c carries the fields m, its MW is w, and the record of w has the hold
flag and the reset flag given; its settings are those of m. -/
def WritesBranch (c : Instr) (m w : ObjectWrite) (hold reset : Bool) : Prop :=
  let v := BranchSettings.ofWords m.words
  (c = .branchSettingsWrite m ∧ w = m ∧ hold = v.hold ∧ reset = v.reset)
    ∨ (c = .holdFlagSet m ∧ w = objectWithField m 1 16 1 1 ∧ hold = true ∧ reset = v.reset)
    ∨ (c = .holdFlagCleared m ∧ w = objectWithField m 1 16 1 0 ∧ hold = false ∧ reset = v.reset)
    ∨ (c = .resetFlagSet m ∧ w = objectWithField m 1 17 1 1 ∧ hold = v.hold ∧ reset = true)
    ∨ (c = .resetFlagCleared m ∧ w = objectWithField m 1 17 1 0 ∧ hold = v.hold ∧ reset = false)

/-- R155: a value of a BRANCH record is out of its range. -/
abbrev BranchSettings.OutOfRange (v : BranchSettings) : Prop :=
  v.budget = 0 ∨ v.interval = 0 ∨ v.timeout = 0 ∨ v.watermark = 0 ∨ 16 < v.watermark

/-- R71, R98: the branch br with the settings of a BRANCH record and the flags given; the level flag follows a watermark that changes. -/
def Branch.Stored (br : Branch) (v : BranchSettings) (hold reset : Bool) : Branch :=
  { br with
    budget := v.budget, interval := v.interval, timeout := v.timeout, watermark := v.watermark, dest := v.dest
    level := if v.watermark = br.watermark then br.level else decide (v.watermark.toNat ≤ br.queue.length)
    hold := hold, reset := reset }

/-- R71: LEVEL is raised when the level flag of branch b, clear before, is set in s. -/
def State.RaisesLevel (s : State) (b : BranchId) (before : Bool) : State :=
  if s.branches[b].level = true ∧ before = false then s.raise .level s.levelSet else s

/-- R173: the words of a branch request of a kind: kind, length, address and data in their places, and 0 in the bits between. -/
def IsBranchRequest (ws : List Word) (kind : BitVec 8) (length : BitVec 6) (a : Address) (data : List Word) : Prop :=
  ws.length = 3 + data.length ∧ ws.drop 3 = data ∧ bits (wordAt ws 0) 24 8 = kind ∧ bits (wordAt ws 0) 12 12 = 0
    ∧ bits (wordAt ws 0) 6 6 = length ∧ bits (wordAt ws 0) 0 6 = 0 ∧ bits (wordAt ws 1) 8 24 = 0
    ∧ addressOf (wordAt ws 1) (wordAt ws 2) = a

/-- R84, R172: the outstanding request of branch b has ended: none is outstanding, the response timer has stopped, and a branch request
that the port had not sent is not sent any more (log 11). -/
def State.IssueEnded (u : State) (b : BranchId) : State :=
  { u with
    branches := u.branches.set b
      { u.branches[b] with
        outstanding := none, responseTimer := none
        toSend := u.branches[b].toSend.filter (fun p => match p with | .noticeAnswer _ => true | .request _ => false) } }

/-- R33: what a live entry becomes when it completes in the state u. -/
def LiveEntry.completeIn (l : LiveEntry) (u : State) (status : ResultStatus) (data : List Word) : Entry :=
  .live { l with
    state := .complete { status := status, data := data, fence := u.youngestFrom l.req.branch, timer := u.collectionLimit } }

/-- The trunk packet that a command takes (log 2, log 3). -/
def trunkPacketOf : Instr → Option TrunkPacket
  | .read q => some (.memory (.np .rd) q)
  | .confirmedWrite q => some (.memory (.np .wrn) q)
  | .postedWrite q => some (.memory .wrp q)
  | .exchange q => some (.memory (.np .xch) q)
  | .abandon r t extra => some (.abandon r t extra)
  | .unknownKind k r t => some (.unknown k r t)
  | .managementRead m => some (.managementRead m)
  | .managementWrite m => some (.managementWrite m)
  | .winStagedWrite m => some (.managementWrite (objectRequest m .winStaged))
  | .immediate m => some (.managementWrite (objectRequest (objectWithField m 0 0 4 1) .commit))
  | .drain m => some (.managementWrite (objectRequest (objectWithField m 0 0 4 2) .commit))
  | .cancel m => some (.managementWrite (objectRequest (objectWithField m 0 0 4 3) .commit))
  | .revert m => some (.managementWrite (objectRequest (objectWithField m 0 0 4 4) .commit))
  | .reqWrite m => some (.managementWrite (objectRequest m .req))
  | .take m => some (.managementWrite (objectRequest (objectWithField m 0 0 4 1) .fault))
  | .branchSettingsWrite m => some (.managementWrite (objectRequest m .branch))
  | .holdFlagSet m => some (.managementWrite (objectRequest (objectWithField m 1 16 1 1) .branch))
  | .holdFlagCleared m => some (.managementWrite (objectRequest (objectWithField m 1 16 1 0) .branch))
  | .resetFlagSet m => some (.managementWrite (objectRequest (objectWithField m 1 17 1 1) .branch))
  | .resetFlagCleared m => some (.managementWrite (objectRequest (objectWithField m 1 17 1 0) .branch))
  | .probeRead m => some (.managementWrite (objectRequest (objectWithField m 0 0 2 1) .probe))
  | .probeWrite m => some (.managementWrite (objectRequest (objectWithField m 0 0 2 2) .probe))
  | .alertAcknowledge m => some (.managementWrite (objectRequest m .alert))
  | .alertEnable m => some (.managementWrite (objectRequest m .alert))
  | .timingWrite m => some (.managementWrite (objectRequest m .timing))
  | .partReset m => some (.managementWrite (objectRequest (objectWithField m 0 0 4 1) .part))
  | _ => none

/-- The packet of a branch's target that a command takes (log 2). -/
def targetPacketOf : Instr → Option (BranchId × TargetPacket)
  | .done b count ws => some (b, .answer .done count ws)
  | .later b count ws => some (b, .answer .later count ws)
  | .refuse b count ws => some (b, .answer .refuse count ws)
  | .bntc b count code ws => some (b, .notice count code ws)
  | .strayTargetPacket b p => some (b, p)
  | _ => none

/-- R89, R91: the command c ends the outstanding request of branch b, whose DONE carries `words` words, with the ending e, and u is the
state that it finds: a well-formed answer that can be taken, or the expiry of the response timer that runs. -/
def State.EndsIssue (s : State) (b : BranchId) (c : Instr) (e : Ending) (words : Nat) (u : State) : Prop :=
  (∃ count ws, c = .done b count ws ∧ e = .done ws ∧ count.toNat = words ∧ ws.length = words
      ∧ s.OffersTarget b (.answer .done count ws) u)
    ∨ (c = .later b 0 [] ∧ e = .later ∧ s.OffersTarget b (.answer .later 0 []) u)
    ∨ (c = .refuse b 0 [] ∧ e = .refuse ∧ s.OffersTarget b (.answer .refuse 0 []) u)
    ∨ (c = .responseTimeout b ∧ e = .timeout ∧ s.branches[b].responseTimer.isSome = true ∧ u = { s with sent := [] })

end Sys2Proof.Machine
end

