-- ==== Sys2Proof/WellFormed.lean ====
section
/-! DEFINITION. Which commands stand for a packet or frame that can arrive: the frame holds at most 40 words (R165), the
fields that a short packet would carry are absent (R173), and the packet is one of the command's own row. -/

namespace Sys2Proof

/-- R165, R173: three header words and the data fit a frame; without an address there is no data. -/
def MemoryRequest.wellFormed (q : MemoryRequest) : Bool :=
  match q.address with
  | some _ => decide (q.data.length + 3 ≤ Config.frameWords)
  | none => q.data.isEmpty

/-- R165, R173: two header words and the record fit a frame; without an object there is no record. -/
def ManagementRequest.wellFormed (m : ManagementRequest) : Bool :=
  match m.object with
  | some _ => decide (m.words.length + 2 ≤ Config.frameWords)
  | none => m.words.isEmpty

/-- R165, R173: an MW's two header words and its record fit a frame. -/
def ObjectWrite.wellFormed (m : ObjectWrite) : Bool := decide (m.words.length + 2 ≤ Config.frameWords)

/-- The field of word `k` of a record is `v`, when the record has that word. -/
def recordField {n : Nat} (words : List Word) (k lo : Nat) (v : BitVec n) : Bool :=
  match words[k]? with
  | some w => bits w lo n == v
  | none => true

/-- R155: an MW's class has an action or operation field, and the written one is not one the class lists. -/
def unlistedAction (c : ObjectClass) (words : List Word) : Bool :=
  match c, words with
  | .commit, w :: _ => decide (bits w 0 4 = 0 ∨ 4 < bits w 0 4)
  | .fault, w :: _ => bits w 0 4 != 1
  | .part, w :: _ => bits w 0 4 != 1
  | .probe, w :: _ => bits w 0 2 != 1 && bits w 0 2 != 2
  | _, _ => false

/-- The MWs of the row MANAGEMENT_WRITE: to a class without a row of its own (IDENT, WIN-ACTIVE, ENTRY, unknown, absent),
with an action that no row names, or with no record word to carry one. -/
def generalWrite (m : ManagementRequest) : Bool :=
  match m.object with
  | none => true
  | some (c, _) =>
    match ObjectClass.ofCode c with
    | none => true
    | some .ident => true
    | some .winActive => true
    | some .entry => true
    | some k => m.words.isEmpty || unlistedAction k m.words

/-- R165, R173: a branch packet's header word and words fit a frame. -/
def TargetPacket.wellFormed : TargetPacket → Bool
  | .answer _ _ words => decide (words.length + 1 ≤ Config.frameWords)
  | .notice _ _ words => decide (words.length + 1 ≤ Config.frameWords)
  | .other kind => decide (kind < TargetAnswer.done.code ∨ kindBntc < kind)

/-- Whether a command stands for something that can happen. `exec` is total and does not ask it. -/
def Instr.wellFormed : Instr → Bool
  | .read q => q.wellFormed
  | .confirmedWrite q => q.wellFormed
  | .postedWrite q => q.wellFormed
  | .exchange q => q.wellFormed
  | .abandon _ _ extra => decide (extra + 1 ≤ Config.frameWords)
  | .unknownKind kind _ _ => !requestKind kind
  | .managementRead m => m.wellFormed
  | .managementWrite m => m.wellFormed && generalWrite m
  | .winStagedWrite m => m.wellFormed
  | .immediate m => m.wellFormed && recordField m.words 0 0 (1 : BitVec 4)
  | .drain m => m.wellFormed && recordField m.words 0 0 (2 : BitVec 4)
  | .cancel m => m.wellFormed && recordField m.words 0 0 (3 : BitVec 4)
  | .revert m => m.wellFormed && recordField m.words 0 0 (4 : BitVec 4)
  | .reqWrite m => m.wellFormed
  | .take m => m.wellFormed && recordField m.words 0 0 (1 : BitVec 4)
  | .branchSettingsWrite m => m.wellFormed
  | .holdFlagSet m => m.wellFormed && recordField m.words 1 16 (1 : BitVec 1)
  | .holdFlagCleared m => m.wellFormed && recordField m.words 1 16 (0 : BitVec 1)
  | .resetFlagSet m => m.wellFormed && recordField m.words 1 17 (1 : BitVec 1)
  | .resetFlagCleared m => m.wellFormed && recordField m.words 1 17 (0 : BitVec 1)
  | .probeRead m => m.wellFormed && recordField m.words 0 0 (1 : BitVec 2)
  | .probeWrite m => m.wellFormed && recordField m.words 0 0 (2 : BitVec 2)
  | .alertAcknowledge m => m.wellFormed
  | .alertEnable m => m.wellFormed
  | .timingWrite m => m.wellFormed
  | .partReset m => m.wellFormed && recordField m.words 0 0 (1 : BitVec 4)
  | .hardReset => true
  | .powerUp => true
  | .engineChoice _ => true
  | .done _ count words => (TargetPacket.answer .done count words).wellFormed
  | .later _ count words => (TargetPacket.answer .later count words).wellFormed
  | .refuse _ count words => (TargetPacket.answer .refuse count words).wellFormed
  | .bntc _ count code words => (TargetPacket.notice count code words).wellFormed
  | .strayTargetPacket _ p => p.wellFormed
  | .responseTimeout _ => true
  | .retryIntervalPasses _ => true
  | .backoffIntervalEnds _ => true
  | .collectionTimerExpiry _ => true
  | .drainTimerExpiry => true
  | .transmitChoice => true
  | .dataFrame _ _ words => !words.isEmpty && decide (words.length ≤ Config.frameWords)
  | .ack _ _ => true
  | .resend _ _ => true
  | .train _ _ => true
  | .trainFrameSend _ => true
  | .checkFailure _ raw => (Frame.ofWords raw).isNone
  | .acknowledgementTimerExpiry _ => true
  | .signalAbsent _ => true

end Sys2Proof
end

