-- ==== Sys2Proof/Certificates/Slice0/Obligations.lean ====
section
/-! DEFINITION. The statements for the provers. The terms they use beside the model's own are in Sys2Proof/Safety.lean. Every equation
`exec c s = .next t` gives the whole next state, so what t does not change is unchanged. -/

open Sys2Proof Sys2Proof.Machine

/-! ### The queue of commands and the resets -/

/-- A step takes the command at the front of the queue and runs it on the state with the queue's rest; on an empty queue the block
idles (log 1); and every command answers a next state and leaves the queue alone. -/
def Obligations.StepRunsFrontCommand : Prop :=
  (∀ (c : Instr) (s : State) (rest : List Instr),
      step { s with pending := c :: rest } = exec c { s with pending := rest })
    ∧ (∀ s : State, s.pending = [] → step s = .next s)
    ∧ ∀ (c : Instr) (s : State), ∃ t, exec c s = .next t ∧ t.pending = s.pending

/-- The values that a hard reset leaves (R2, R6, R25, R57, R99, R112, R116, R135, R140, R148, R162, R169, R171), and that POWER_UP and
HARD_RESET bring every state to them; they differ in the cause that PART and the RESTART alert hold. The link fields of a DOWN port
that the spec gives no value for are the model's choice (log 6). -/
def Obligations.HardResetLeavesResetValues : Prop :=
  (∀ s : State, exec .powerUp s = .next { State.reset with fresh := s.fresh, pending := s.pending })
    ∧ (∀ s : State,
        exec .hardReset s
          = .next
              { State.reset with
                resetCause := .pin
                notices := [{ seq := 0, source := .alert .restart, dest := 0, payload := [1] }]
                alerts := { State.reset.alerts with restart := { enabled := true, raised := some 1, marker := .queued } }
                fresh := s.fresh, pending := s.pending })
    ∧ (∀ i : WindowId, State.reset.staged[i] = Window.blank ∧ State.reset.active[i] = Window.blank)
    ∧ State.reset.generation = 0
    ∧ (∀ n : EntryId, State.reset.entries[n] = .free)
    ∧ (∀ b : BranchId,
        let br := State.reset.branches[b]
        br.queue = [] ∧ br.level = false ∧ br.hold = false ∧ br.reset = false ∧ br.outstanding = none ∧ br.responseTimer = none
          ∧ br.slot = none ∧ br.probe = .idle ∧ br.budget = 1024 ∧ br.interval = 4 ∧ br.timeout = 64 ∧ br.watermark = 12
          ∧ br.dest = 0 ∧ br.state = .down ∧ br.link.checkFailures = 0)
    ∧ State.reset.notices = [{ seq := 0, source := .alert .restart, dest := 0, payload := [2] }] ∧ State.reset.nextSeq = 1
    ∧ (∀ r : Requester, State.reset.logs[r] = { entries := [], drops := 0 })
    ∧ (∀ c ∈ AlertKind.all, c ≠ .restart → State.reset.alerts.get c = { enabled := true, raised := none, marker := .none })
    ∧ State.reset.alerts.restart = { enabled := true, raised := some 2, marker := .queued } ∧ State.reset.alertDest = 0
    ∧ State.reset.controller = .idle ∧ State.reset.outcome = .none
    ∧ (∀ r : Requester, State.reset.settings[r] = { quota := 2, strict := true, manager := true })
    ∧ State.reset.collectionLimit = 2048 ∧ State.reset.drainLimit = 4096 ∧ State.reset.resetCause = .power
    ∧ State.reset.trunk.link.up = false ∧ State.reset.trunk.answers = [] ∧ State.reset.trunk.delivered = []

/-- R163: PART_RESET answers CPL OK and then brings the part to its reset values; the trunk port keeps its answers, its link state and
its link fields, but that its count of check failures is 0 (R166, log 13), and discards the requests not yet taken. R164: a request
received after an MW PART RESET that waits may be taken first: it is served as if it had been received before. -/
def Obligations.PartResetKeepsTrunkPort : Prop :=
  (∀ (m : ObjectWrite) (s u : State),
      s.Writes (objectWithField m 0 0 4 1) .part 2 u → m.index = 0 →
        exec (.partReset m) s
          = .next
              { State.reset with
                trunk :=
                  { link := { s.trunk.link with checkFailures := 0 }
                    answers := s.trunk.answers ++ [{ requester := m.requester, tag := m.tag, body := .completion .ok [] }]
                    delivered := [], lost := s.trunk.lost }
                resetCause := .managed
                notices := [{ seq := 0, source := .alert .restart, dest := 0, payload := [3] }]
                alerts := { State.reset.alerts with restart := { enabled := true, raised := some 3, marker := .queued } }
                fresh := s.fresh, pending := s.pending })
    ∧ ∀ (c : Instr) (p : TrunkPacket) (m : ManagementRequest) (rest : List TrunkPacket) (s : State),
        trunkPacketOf c = some p → m.object = some (12, 0) → actionOf m.words = 1 → p ≠ .managementWrite m →
          s.trunk.link.up = true →
            exec c { s with trunk := { s.trunk with delivered := .managementWrite m :: p :: rest } }
              = exec c { s with trunk := { s.trunk with delivered := p :: .managementWrite m :: rest } }

/-- R25: after a hard reset and after a managed reset every entry is FREE and every entry count is 0; no collection timer runs and no
fence is held, since no entry is COMPLETE; and no pair finds a live entry. -/
def Obligations.TableIsEmptyAfterReset : Prop :=
  ∀ (c : Instr) (s t : State),
    (c = .hardReset ∨ c = .powerUp
        ∨ ∃ m u, c = .partReset m ∧ s.Writes (objectWithField m 0 0 4 1) .part 2 u ∧ m.index = 0) →
      exec c s = .next t →
        (∀ n : EntryId, t.entries[n] = .free ∧ t.entries[n].fenceOf = none)
          ∧ (∀ r : Requester, t.entryCount r = 0)
          ∧ ∀ (r : Requester) (k : Tag), t.findEntry r k = none

/-! ### The operations that the commands share -/

/-- R141: what a raise of class c with the detail d does in each state of the class. -/
def Obligations.RaiseFollowsTable : Prop :=
  ∀ (s : State) (c : AlertKind) (d : Word),
    ((s.alerts.get c).raised.isSome = true → s.raise c d = s)
      ∧ (s.alerts.get c = { enabled := true, raised := none, marker := .none } →
          s.raise c d
            = { s with
                alerts := s.alerts.put c { enabled := true, raised := some d, marker := .queued }
                notices := s.notices ++ [{ seq := s.nextSeq, source := .alert c, dest := s.alertDest, payload := [d] }]
                nextSeq := s.nextSeq + 1 })
      ∧ (s.alerts.get c = { enabled := true, raised := none, marker := .queued } →
          s.raise c d = { s with alerts := s.alerts.put c { enabled := true, raised := some d, marker := .queuedOwed } })
      ∧ (∀ k : Marker, s.alerts.get c = { enabled := false, raised := none, marker := k } →
          s.raise c d
            = { s with
                alerts :=
                  s.alerts.put c { enabled := false, raised := some d, marker := if k = .queued then .queuedOwed else k } })

/-- R135, R136: a fault entry handed over is stored in its requester's log, or counted as dropped when the log holds 4; then a group 6
entry raises its own class, and after it FAULT is raised if the requester is strict, stored or not. -/
def Obligations.FaultIsLoggedAndRaised : Prop :=
  ∀ (s : State) (f : FaultEntry),
    let log := s.logs[f.requester]
    let s1 : State :=
      { s with
        logs := s.logs.set f.requester
          (if log.entries.length < 4 then { entries := log.entries ++ [f], drops := log.drops }
            else { entries := log.entries, drops := min (log.drops + 1) 255 }) }
    let d : Word := BitVec.ofNat 32 f.requester
    let s2 :=
      match f.causes with
      | .undelivered _ => s1.raise .undelivered d
      | .uncollected _ => s1.raise .uncollected d
      | _ => s1
    s.handFault f = if s.settings[f.requester].strict then s2.raise .fault d else s2

/-- R70: an event that changes the items of a queue brings the level flag to whether the item count is equal to or above the watermark,
and raises LEVEL, with the set of branches whose flags are then set, exactly when the flag goes from clear to set. -/
def Obligations.LevelFlagFollowsItemCount : Prop :=
  (∀ (s : State) (b : BranchId) (q : List Item),
      let br := s.branches[b]
      let level := decide (br.watermark.toNat ≤ q.length)
      let u : State := { s with branches := s.branches.set b { br with queue := q, level := level } }
      s.setQueue b q = if level = true ∧ br.level = false then u.raise .level u.levelSet else u)
    ∧ (∀ (s : State) (b : BranchId) (it : Item), s.appendItem b it = s.setQueue b (s.branches[b].queue ++ [it]))
    ∧ (∀ (s : State) (b : BranchId), s.levelSet.getLsbD b = s.branches[b].level)
    ∧ ∀ (s : State) (i : Nat), 4 ≤ i → s.levelSet.getLsbD i = false

/-- R118, R121, R122: the drain condition, and the end of a drain: while the controller is DRAINING and the condition holds, the swap is
made, the outcome is DONE, the controller is IDLE, and COMMIT is raised with DONE; otherwise nothing changes. -/
def Obligations.DrainEndsWhenNoWorkIsLeft : Prop :=
  (∀ s : State,
      s.drained = true
        ↔ (∀ (n : EntryId) (l : LiveEntry), s.entries[n] = .live l → ∃ c, l.state = .complete c)
          ∧ ∀ (b : BranchId), ∀ it ∈ s.branches[b].queue, ∃ n, it = .ref n)
    ∧ ∀ s : State,
        s.drainEnd
          = if s.controller ≠ .idle ∧ s.drained = true then
              ({ s with active := s.staged, generation := s.generation + 1, controller := .idle, outcome := .done } : State).raise
                .commit 1
            else s

/-- R171, R172, R167: an answer joins the answer list, and is discarded while the trunk is DOWN. A packet that an engine hands to its
port is sent at once as a DATA frame with the next number when none waits before it and the replay list has room, and kept in the
replay list; otherwise it waits behind those that wait. That a port sends as soon as it can is the model's choice (log 10). -/
def Obligations.PortsTakeWhatTheyAreHanded : Prop :=
  (∀ (s : State) (r : Requester) (t : Tag) (a : AnswerBody),
      s.answer r t a
        = if s.trunk.link.up then
            { s with trunk := { s.trunk with answers := s.trunk.answers ++ [{ requester := r, tag := t, body := a }] } }
          else s)
    ∧ (∀ (s : State) (b : BranchId) (p : BranchPacket),
        let l := s.branches[b].link
        s.branches[b].toSend = [] → l.up = true → l.replay.length < 16 →
          s.handToPort b p
            = { s with
                branches := s.branches.set b
                  { s.branches[b] with
                    link :=
                      { l with
                        nextSend := l.nextSend + 1, replay := l.replay ++ [(l.nextSend, p.toWords)], ackTimer := true } }
                sent := s.sent ++ [(.branch b, .data l.nextSend p.toWords)] })
    ∧ ∀ (s : State) (b : BranchId) (p : BranchPacket),
        let l := s.branches[b].link
        l.up = false ∨ 16 ≤ l.replay.length →
          s.handToPort b p
            = { s with
                branches := s.branches.set b { s.branches[b] with toSend := s.branches[b].toSend ++ [p] } }

/-! ### Losses -/

/-- R47, R72, R81, R95, R128: a branch loss. Every QUEUED, ISSUED or WAITING entry of the branch completes with BRANCH-RESET and the
fence of the queue of notices as it stands, DISOWNED entries become FREE, COMPLETE entries and other branches' entries are unchanged;
the branch is emptied, and its probe ends with BRANCH-RESET; the posted items are handed over as UNDELIVERED faults in queue order; and
last the loss may end a drain. -/
def Obligations.BranchLossEmptiesBranch : Prop :=
  ∀ (s : State) (b : BranchId), ∃ v : State,
    v = { s with
          entries := v.entries
          branches := s.branches.set b
            { s.branches[b] with
              queue := [], level := false, outstanding := none, responseTimer := none, slot := none
              probe :=
                match s.branches[b].probe with
                | .pending op a => .done op a .branchReset
                | .issued op a => .done op a .branchReset
                | p => p } }
      ∧ (∀ n : EntryId,
          v.entries[n]
            = match s.entries[n] with
              | .free => .free
              | .live l =>
                if l.req.branch = b then
                  match l.state with
                  | .complete _ => .live l
                  | .disowned => .free
                  | _ => l.completeIn s .branchReset []
                else .live l)
      ∧ s.branchLoss b
        = (s.branches[b].queue.foldl
            (fun t it =>
              match it with
              | .posted p =>
                t.handFault
                  { causes := .undelivered .branchLost, requester := p.requester, kind := 0x03, tag := p.tag
                    address := some p.address, object := none, branch := some b, window := none, generation := p.generation }
              | .ref _ => t)
            v).drainEnd

/-- R48, R73, R99, R129, R170, R171: the trunk loss at the entries, the queues, the retry slots and the trunk port; and R170, R172, R81:
a branch port that loses its link discards what was on its way, and the branch is lost if it was ACTIVE or HELD. SIGNAL_ABSENT loses the
link of an UP port and does nothing to a DOWN one. That a loss keeps the port's sequence numbers, resend rounds and check failures (log
17, DEDUCED), and that the trunk port holds that it is DOWN through a trunk loss (log 20, DEDUCED), are the model's. -/
def Obligations.LinkLossReachesBlocks : Prop :=
  (∀ s : State, ∃ v : State,
      v = { s with
            trunk :=
              { link :=
                  { s.trunk.link with
                    up := false, replay := [], ackTimer := false, trainRun := 0, readyRun := 0, ready := false
                    readySent := false }
                answers := [], delivered := [], lost := true }
            entries := v.entries
            branches := v.branches }
        ∧ (∀ n : EntryId,
            v.entries[n]
              = match s.entries[n] with
                | .free => .free
                | .live l =>
                  match l.state with
                  | .issued => .live { l with state := .disowned }
                  | .disowned => .live l
                  | _ => .free)
        ∧ (∀ b : BranchId,
            let q := s.branches[b].queue.filter Item.isPosted
            v.branches[b]
              = { s.branches[b] with
                  queue := q, slot := none, level := decide (s.branches[b].watermark.toNat ≤ q.length) })
        ∧ s.linkLost .trunk = v.drainEnd)
    ∧ (∀ (s : State) (b : BranchId),
        let br := s.branches[b]
        let w : State :=
          { s with
            branches := s.branches.set b
              { br with
                link :=
                  { br.link with
                    up := false, replay := [], ackTimer := false, trainRun := 0, readyRun := 0, ready := false
                    readySent := false }
                delivered := [], toSend := [] } }
        s.linkLost (.branch b) = if br.link.up = true ∧ br.reset = false then w.branchLoss b else w)
    ∧ ∀ (s : State) (p : Port),
        exec (.signalAbsent p) s
          = .next
              (if (s.link p).up = true then ({ s with sent := [] } : State).linkLost p else { s with sent := [] })

/-! ### Requests (01, 02) -/

/-- R9, R10, R11, R173: a malformed memory request, a packet of unknown kind and an ABN with words are answered CPL FORMAT, and a fault
entry with every cause that applies is handed over. -/
def Obligations.MalformedRequestsAnswerFormat : Prop :=
  (∀ (k : MemKind) (q : MemoryRequest) (s u : State),
      s.Offers (.memory k q) u → q.address = none →
        exec (memoryCommand k q) s
          = .next
              ((u.handFault (memoryFault u k q (.format false true false false) none none)).answer q.requester q.tag
                (.completion .format [])))
    ∧ (∀ (k : MemKind) (q : MemoryRequest) (a : Address) (s u : State),
        let inRange := 1 ≤ q.length.toNat ∧ q.length.toNat ≤ (if k = .np .xch then 2 else 32)
        let length := ¬ inRange ∨ q.data.length ≠ (if k = .np .rd then 0 else q.length.toNat)
        let align := a.toNat % 4 ≠ 0
        let pageCross := inRange ∧ (a.toNat + 4 * q.length.toNat - 1) / 4096 ≠ a.toNat / 4096
        s.Offers (.memory k q) u → q.address = some a → (length ∨ align ∨ pageCross) →
          exec (memoryCommand k q) s
            = .next
                ((u.handFault
                    (memoryFault u k q (.format false (decide length) (decide align) (decide pageCross)) none none)).answer
                  q.requester q.tag (.completion .format [])))
    ∧ (∀ (kind : BitVec 8) (r : Requester) (t : Tag) (s u : State),
        s.Offers (.unknown kind r t) u →
          exec (.unknownKind kind r t) s
            = .next
                ((u.handFault
                    { causes := .format true false false false, requester := r, kind := kind, tag := t, address := none
                      object := none, branch := none, window := none, generation := u.generation }).answer r t
                  (.completion .format [])))
    ∧ ∀ (r : Requester) (t : Tag) (extra : Nat) (s u : State),
        s.Offers (.abandon r t extra) u → extra ≠ 0 →
          exec (.abandon r t extra) s
            = .next
                ((u.handFault
                    { causes := .format false true false false, requester := r, kind := 0x05, tag := t, address := none
                      object := none, branch := none, window := none, generation := u.generation }).answer r t
                  (.completion .format []))

/-- R42 to R46: what an ABN does in each state of the entry that its pair names, in the states that meet R27 and R122. -/
def Obligations.AbandonFollowsEntryState : Prop :=
  ∀ (r : Requester) (t : Tag) (s u : State),
    s.Offers (.abandon r t 0) u → u.PairLaw → u.DrainLaw →
      ((∀ n : EntryId, u.entries[n].holds r t = false) →
          exec (.abandon r t 0) s = .next (u.answer r t (.completion .noEntry [])))
        ∧ ∀ (n : EntryId) (l : LiveEntry),
            u.entries[n] = .live l → l.req.requester = r → l.req.tag = t →
              let free : State := { u with entries := u.entries.set n .free }
              let lb := u.branches[l.req.branch]
              exec (.abandon r t 0) s
                  = .next
                      (match l.state with
                        | .queued =>
                          (free.setQueue l.req.branch (lb.queue.filter (fun it => it ≠ .ref n))).drainEnd.answer r t
                            (.completion .ok [])
                        | .waiting =>
                          ({ free with
                              branches := u.branches.set l.req.branch { lb with slot := none } } : State).drainEnd.answer r t
                            (.completion .ok [])
                        | .issued =>
                          ({ u with entries := u.entries.set n (.live { l with state := .disowned }) } : State).answer r t
                            (.completion .ok [])
                        | .complete _ => free.answer r t (.completion .ok [])
                        | .disowned => u.answer r t (.completion .noEntry []))
                ∧ ∀ v : State,
                    exec (.abandon r t 0) s = .next v →
                      v.entryCount r + (if l.state = .issued ∨ l.state = .disowned then 0 else 1) = u.entryCount r

/-- R12, R35 to R39: a well-formed non-posted request whose pair names a live entry, in a state that meets R27: a held tag, a repeat in
each state of the entry, or a conflict. -/
def Obligations.RequestsMeetTheirEntry : Prop :=
  ∀ (k : NpKind) (q : MemoryRequest) (a : Address) (n : EntryId) (l : LiveEntry) (s u : State),
    s.Offers (.memory (.np k) q) u → WellFormedAt (.np k) q a → u.PairLaw → u.entries[n] = .live l →
      l.req.requester = q.requester → l.req.tag = q.tag →
        let same := l.req.kind = k ∧ l.req.address = a ∧ l.req.length = q.length
        (l.state = .disowned →
            exec (memoryCommand (.np k) q) s = .next (u.answer q.requester q.tag (.busy .tagHeld)))
          ∧ (same → (l.state = .queued ∨ l.state = .issued ∨ l.state = .waiting) →
              exec (memoryCommand (.np k) q) s = .next (u.answer q.requester q.tag .deferred))
          ∧ (∀ c : Completion, same → l.state = .complete c → c.fence = none →
              exec (memoryCommand (.np k) q) s
                = .next
                    (({ u with entries := u.entries.set n .free } : State).answer q.requester q.tag
                      (.completion c.status.cpl c.data)))
          ∧ (∀ (c : Completion) (f : BitVec 16), same → l.state = .complete c → c.fence = some f →
              exec (memoryCommand (.np k) q) s
                = .next
                    (({ u with
                          entries := u.entries.set n (.live { l with state := .complete { c with timer := u.collectionLimit } }) } :
                        State).answer q.requester q.tag .deferred))
          ∧ (¬ same → l.state ≠ .disowned →
              exec (memoryCommand (.np k) q) s
                = .next
                    ((u.handFault (memoryFault u (.np k) q .conflict none none)).answer q.requester q.tag
                      (.completion .conflict [])))

/-- R13, R19, R20: a request that reaches stage 3 during a drain is answered BSY DRAINING; one that passes its window but lacks room is
answered BSY with the first reason that applies; nothing else changes. -/
def Obligations.BusyRefusalsChangeNothing : Prop :=
  (∀ (k : MemKind) (q : MemoryRequest) (a : Address) (s u : State),
      s.Offers (.memory k q) u → u.ReachesStage3 k q a → u.controller ≠ .idle →
        exec (memoryCommand k q) s = .next (u.answer q.requester q.tag (.busy .draining)))
    ∧ (∀ (k : NpKind) (q : MemoryRequest) (a : Address) (i : WindowId) (b : BranchId) (s u : State),
        s.Offers (.memory (.np k) q) u → u.Passes (.np k) q a i → u.active[i].branch.toNat = b → u.branches[b].carries = true →
          let full := ∀ n : EntryId, u.entries[n] ≠ .free
          let quota := u.settings[q.requester].quota.toNat ≤ u.entryCount q.requester
          (full → exec (memoryCommand (.np k) q) s = .next (u.answer q.requester q.tag (.busy .tableFull)))
            ∧ (¬ full → quota → exec (memoryCommand (.np k) q) s = .next (u.answer q.requester q.tag (.busy .quota)))
            ∧ (¬ full → ¬ quota → 16 ≤ u.branches[b].queue.length →
                exec (memoryCommand (.np k) q) s = .next (u.answer q.requester q.tag (.busy .queueFull))))
    ∧ ∀ (q : MemoryRequest) (a : Address) (i : WindowId) (b : BranchId) (s u : State),
        s.Offers (.memory .wrp q) u → u.Passes .wrp q a i → u.active[i].branch.toNat = b → u.branches[b].carries = true →
          (16 ≤ u.branches[b].queue.length →
              exec (.postedWrite q) s = .next (u.answer q.requester q.tag (.busy .queueFull)))
            ∧ (u.branches[b].queue.length < 16 → 256 < queueWords u.branches[b].queue + q.length.toNat →
                exec (.postedWrite q) s = .next (u.answer q.requester q.tag (.busy .words)))

/-- R4, R14 to R17: a request that reaches stage 4 and has no matching window, or one whose branch is DOWN or RESET, or one that does not
permit it: the fault entry is handed over, and a strict requester is answered with the status, a lenient one as if the words held all
ones. -/
def Obligations.DecodeFaultsAreLoggedAndAnswered : Prop :=
  ∀ (k : MemKind) (q : MemoryRequest) (a : Address) (s u : State),
    s.Offers (.memory k q) u → u.ReachesStage3 k q a → u.controller = .idle →
      let refused (c : FaultCauses) (status : CplStatus) (b : Option BranchId) (w : Option WindowId) : State :=
        (u.handFault (memoryFault u k q c b w)).answer q.requester q.tag
          (if u.settings[q.requester].strict then .completion status [] else AllOnesAnswer k q)
      ((∀ i : WindowId, u.active[i].covers (pageOf a) = false) →
          exec (memoryCommand k q) s = .next (refused .unclaimed .unclaimed none none))
        ∧ ∀ i : WindowId, u.Matches a i →
            (∀ b : BranchId, u.active[i].branch.toNat = b → u.branches[b].carries = false →
                exec (memoryCommand k q) s = .next (refused .unavailable .unavailable (some b) (some i)))
              ∧ ((∀ b : BranchId, u.active[i].branch.toNat = b → u.branches[b].carries = true) →
                  ¬ u.active[i].permits k q.requester →
                    let noRead := k ≠ .np .wrn ∧ k ≠ .wrp ∧ inMask u.active[i].readMask q.requester = false
                    let noWrite := k ≠ .np .rd ∧ inMask u.active[i].writeMask q.requester = false
                    let noPosted := k = .wrp ∧ u.active[i].posted = false
                    exec (memoryCommand k q) s
                      = .next
                          (refused (.permission (decide noRead) (decide noWrite) (decide noPosted) false false) .denied
                            u.active[i].target (some i)))

/-- R18: a request that its SINK window permits is answered at once as if the words held all ones, and nothing else changes, whatever the
branches, the table, the quota and the queues hold. -/
def Obligations.SinkAnswersAtOnce : Prop :=
  ∀ (k : MemKind) (q : MemoryRequest) (a : Address) (i : WindowId) (s u : State),
    s.Offers (.memory k q) u → u.Passes k q a i → u.active[i].branch = 4 →
      exec (memoryCommand k q) s = .next (u.answer q.requester q.tag (AllOnesAnswer k q))

/-- R21: READ, CONFIRMED_WRITE and EXCHANGE: an accepted request fills some FREE entry (which one is a free value, log 4) as QUEUED with
attempts 0 and the stamped generation, its reference joins the queue of the window's branch at the tail, and it is answered DEF. -/
def Obligations.NonPostedRequestIsParked : Prop :=
  ∀ (k : NpKind) (q : MemoryRequest) (a : Address) (i : WindowId) (b : BranchId) (s u : State),
    s.Offers (.memory (.np k) q) u → u.Passes (.np k) q a i → u.active[i].branch.toNat = b → u.branches[b].carries = true →
      (∃ n : EntryId, u.entries[n] = .free) → u.entryCount q.requester < u.settings[q.requester].quota.toNat →
        u.branches[b].queue.length < 16 →
          ∃ n : EntryId,
            u.entries[n] = .free
              ∧ exec (memoryCommand (.np k) q) s
                = .next
                    ((({ u with
                            fresh := u.fresh + 1
                            entries := u.entries.set n
                              (.live
                                { req :=
                                    { requester := q.requester, tag := q.tag, kind := k, address := a, length := q.length
                                      data := q.data, branch := b, generation := u.generation }
                                  attempts := 0, state := .queued }) } : State).appendItem b (.ref n)).answer
                      q.requester q.tag .deferred)

/-- R22: POSTED_WRITE: an accepted WRP joins the queue of the window's branch at the tail as a READY posted item with attempts 0 and the
stamped generation, and is answered TAKEN. -/
def Obligations.PostedWriteIsQueued : Prop :=
  ∀ (q : MemoryRequest) (a : Address) (i : WindowId) (b : BranchId) (s u : State),
    s.Offers (.memory .wrp q) u → u.Passes .wrp q a i → u.active[i].branch.toNat = b → u.branches[b].carries = true →
      u.branches[b].queue.length < 16 → queueWords u.branches[b].queue + q.length.toNat ≤ 256 →
        exec (.postedWrite q) s
          = .next
              ((u.appendItem b
                  (.posted
                    { requester := q.requester, tag := q.tag, address := a, length := q.length, data := q.data
                      generation := u.generation, attempts := 0, state := .ready })).answer q.requester q.tag .taken)

/-- A packet that cannot be taken (the link is DOWN, a packet that does not let it pass waits before it, or the port has no place) changes
nothing: the model's choice of what such a command is (log 2). -/
def Obligations.UnofferedPacketsChangeNothing : Prop :=
  (∀ (c : Instr) (p : TrunkPacket) (s : State),
      trunkPacketOf c = some p → (∀ u, ¬ s.Offers p u) → exec c s = .next { s with sent := [] })
    ∧ ∀ (c : Instr) (b : BranchId) (p : TargetPacket) (s : State),
        targetPacketOf c = some (b, p) → (∀ u, ¬ s.OffersTarget b p u) → exec c s = .next { s with sent := [] }

/-! ### Management (06, 07, 08) -/

/-- R157: an MR that passes its checks is answered CPL OK with the record of the object as it stands, and reading changes nothing; a
read of ENTRY moves the model's counter of free values on (log 5). -/
def Obligations.ManagementReadReturnsRecord : Prop :=
  ∀ (m : ManagementRequest) (c i : BitVec 8) (k : ObjectClass) (o : Object) (s u : State),
    s.Offers (.managementRead m) u → m.object = some (c, i) → ObjectClass.ofCode c = some k → m.length.toNat = recordLength k →
      m.words = [] → Object.find c i = some o →
        exec (.managementRead m) s
          = .next
              (({ u with fresh := if k = .entry then u.fresh + 1 else u.fresh } : State).answer m.requester m.tag
                (.completion .ok (u.record o)))

/-- R158, R159, R175: the records of the windows, COMMIT, REQ, BRANCH, TIMING, PART and IDENT hold each field at its bits, with the codes
of R174; a window record read is the record written. The counts fit their fields where R56 and R135 hold. -/
def Obligations.SettingsRecordsShowTheirFields : Prop :=
  (∀ w : Window, Window.ofWords w.toWords = w)
    ∧ ([.none, .done, .timedOut, .cancelled] : List CommitOutcome).map CommitOutcome.code = [0, 1, 2, 3]
    ∧ ([.active, .held, .down, .reset] : List BranchState).map BranchState.code = [0, 1, 2, 3]
    ∧ ([.pin, .power, .managed] : List ResetCause).map ResetCause.code = [1, 2, 3]
    ∧ (∀ (s : State) (i : WindowId),
        s.record (.winStaged i) = s.staged[i].toWords ∧ s.record (.winActive i) = s.active[i].toWords)
    ∧ (∀ w : Window,
        let r := w.toWords
        r.length = 4 ∧ bit (wordAt r 0) 31 = w.valid ∧ bits (wordAt r 0) 28 3 = w.branch ∧ bits (wordAt r 0) 0 28 = w.base
          ∧ bit (wordAt r 1) 28 = w.posted ∧ bits (wordAt r 1) 0 28 = w.limit ∧ wordAt r 2 = w.readMask
          ∧ wordAt r 3 = w.writeMask)
    ∧ (∀ s : State,
        let r := s.record .commit
        r.length = 2 ∧ bits (wordAt r 0) 0 4 = 0 ∧ bit (wordAt r 0) 8 = s.draining
          ∧ (bits (wordAt r 0) 16 2).toNat = s.outcome.code ∧ wordAt r 1 = s.generation.setWidth 32)
    ∧ (∀ (s : State) (q : Requester),
        let r := s.record (.req q)
        r.length = 2 ∧ bits (wordAt r 0) 0 5 = s.settings[q].quota ∧ bit (wordAt r 0) 8 = s.settings[q].strict
          ∧ bit (wordAt r 0) 9 = s.settings[q].manager ∧ (bits (wordAt r 1) 0 5).toNat = s.entryCount q
          ∧ (s.LogLaw → (bits (wordAt r 1) 8 3).toNat = s.logs[q].entries.length))
    ∧ (∀ (s : State) (b : BranchId),
        let r := s.record (.branch b)
        let br := s.branches[b]
        r.length = 4 ∧ bits (wordAt r 0) 24 8 = br.timeout ∧ bits (wordAt r 0) 16 8 = br.interval
          ∧ bits (wordAt r 0) 0 16 = br.budget ∧ bit (wordAt r 1) 17 = br.reset ∧ bit (wordAt r 1) 16 = br.hold
          ∧ (bits (wordAt r 1) 8 5).toNat = br.dest.val ∧ bits (wordAt r 1) 0 5 = br.watermark
          ∧ bit (wordAt r 2) 17 = br.level ∧ bit (wordAt r 2) 16 = br.slot.isSome
          ∧ (bits (wordAt r 2) 0 2).toNat = br.state.code
          ∧ (s.QueueLaw →
              (bits (wordAt r 2) 8 5).toNat = br.queue.length ∧ (bits (wordAt r 3) 0 9).toNat = queueWords br.queue))
    ∧ (∀ s : State,
        s.record .timing = [s.collectionLimit.setWidth 32, s.drainLimit.setWidth 32]
          ∧ s.record .part = [BitVec.ofNat 32 (s.resetCause.code * 256), 0]
          ∧ s.record .ident = [0x00003E27, 0x00000742, 0x00000001, 0x20102004])

/-- R54, R93, R175, R176: the records of FAULT, PROBE, ENTRY and ALERT hold each field at its bits, with the codes of R174 and the cause
sets of R176, and absent fields read 0: of an empty log and of a fault entry, of a probe that is IDLE, not DONE, or a READ without a read
word, and of an entry that is FREE or not COMPLETE. The time left on a collection timer is a free value within its bound (log 5). -/
def Obligations.FaultProbeEntryAlertRecordsShowTheirFields : Prop :=
  (∀ (s : State) (q : Requester) (f : FaultEntry) (rest : List FaultEntry),
      s.logs[q].entries = f :: rest → s.LogLaw →
        let r := s.record (.fault q)
        r.length = 4 ∧ bit (wordAt r 0) 31 = true ∧ (bits (wordAt r 0) 28 3).toNat = f.causes.group
          ∧ (bits (wordAt r 0) 24 3).toNat = f.causes.reason ∧ bits (wordAt r 0) 16 5 = f.causes.bits
          ∧ (bits (wordAt r 0) 8 8).toNat = s.logs[q].drops ∧ bit (wordAt r 0) 0 = f.address.isSome
          ∧ bit (wordAt r 0) 1 = f.object.isSome ∧ bit (wordAt r 0) 2 = f.branch.isSome ∧ bit (wordAt r 0) 3 = f.window.isSome
          ∧ bit (wordAt r 0) 4 = f.causes.held.isSome ∧ bits (wordAt r 1) 24 8 = f.kind
          ∧ (bits (wordAt r 1) 16 5).toNat = f.requester.val ∧ (bits (wordAt r 1) 12 4).toNat = f.tag.val
          ∧ (∀ st, f.causes.held = some st → (bits (wordAt r 1) 8 4).toNat = st.cpl.code)
          ∧ (∀ b, f.branch = some b → (bits (wordAt r 1) 6 2).toNat = b.val)
          ∧ (∀ i, f.window = some i → (bits (wordAt r 1) 0 5).toNat = i.val)
          ∧ bits (wordAt r 2) 16 16 = f.generation
          ∧ (∀ a, f.address = some a → f.object = none → addressOf (wordAt r 2) (wordAt r 3) = a)
          ∧ (∀ c i, f.object = some (c, i) → f.address = none → bits (wordAt r 2) 8 8 = c ∧ bits (wordAt r 2) 0 8 = i)
          ∧ (f.causes.held = none → bits (wordAt r 1) 8 4 = 0) ∧ (f.branch = none → bits (wordAt r 1) 6 2 = 0)
          ∧ (f.window = none → bits (wordAt r 1) 0 5 = 0) ∧ (f.object = none → bits (wordAt r 2) 8 8 = 0)
          ∧ (f.address = none → wordAt r 3 = 0) ∧ (f.object = none → f.address = none → bits (wordAt r 2) 0 8 = 0))
    ∧ (∀ (s : State) (q : Requester),
        s.logs[q].entries = [] → s.LogLaw → s.record (.fault q) = [BitVec.ofNat 32 (s.logs[q].drops * 256), 0, 0, 0])
    ∧ (∀ (s : State) (b : BranchId),
        let r := s.record (.probe b)
        let p := s.branches[b].probe
        r.length = 4 ∧ (bits (wordAt r 0) 8 2).toNat = p.code
          ∧ (∀ op a, p.operation = some (op, a) →
              (bits (wordAt r 0) 0 2).toNat = op.code ∧ addressOf (wordAt r 1) (wordAt r 2) = a)
          ∧ (∀ op a x, p = .done op a x → (bits (wordAt r 0) 16 3).toNat = x.code)
          ∧ (∀ w a, p.operation = some (.write w, a) → wordAt r 3 = w)
          ∧ (∀ a w, p = .done .read a (.ok (some w)) → wordAt r 3 = w)
          ∧ (p = .idle → r = [0, 0, 0, 0]) ∧ ((∀ op a x, p ≠ .done op a x) → bits (wordAt r 0) 16 3 = 0)
          ∧ ∀ a, p.operation = some (.read, a) → (∀ w, p ≠ .done .read a (.ok (some w))) → wordAt r 3 = 0)
    ∧ (∀ (s : State) (n : EntryId), s.entries[n] = .free → s.record (.entry n) = List.replicate 8 0)
    ∧ (∀ (s : State) (n : EntryId) (l : LiveEntry),
        s.entries[n] = .live l →
          let r := s.record (.entry n)
          r.length = 8 ∧ bits (wordAt r 0) 24 8 = l.req.kind.code ∧ (bits (wordAt r 0) 16 5).toNat = l.req.requester.val
            ∧ (bits (wordAt r 0) 12 4).toNat = l.req.tag.val ∧ (bits (wordAt r 0) 0 3).toNat = (Entry.live l).code
            ∧ (bits (wordAt r 1) 8 2).toNat = l.req.branch.val ∧ bits (wordAt r 1) 0 6 = l.req.length
            ∧ addressOf (wordAt r 2) (wordAt r 3) = l.req.address ∧ wordAt r 4 = l.req.generation.setWidth 32
            ∧ (l.attempts < 65536 → (wordAt r 5).toNat = l.attempts)
            ∧ (∀ c, l.state = .complete c →
                (bits (wordAt r 1) 24 4).toNat = c.status.cpl.code ∧ bit (wordAt r 1) 16 = c.fence.isSome
                  ∧ wordAt r 6 = (c.fence.getD 0).setWidth 32
                  ∧ (c.timer ≠ 0 → 1 ≤ (wordAt r 7).toNat ∧ (wordAt r 7).toNat ≤ c.timer.toNat))
            ∧ ((∀ c, l.state ≠ .complete c) →
                bits (wordAt r 1) 24 4 = 0 ∧ bit (wordAt r 1) 16 = false ∧ wordAt r 6 = 0 ∧ wordAt r 7 = 0))
    ∧ (∀ k l a p o : Bool,
        let set (c : FaultCauses) : List Bool := (List.range 5).map c.bits.getLsbD
        set (.format k l a p) = [k, l, a, p, false] ∧ set .conflict = [true, false, false, false, false]
          ∧ set .unclaimed = [true, false, false, false, false] ∧ set .unavailable = [false, true, false, false, false]
          ∧ set .noObject = [false, false, true, false, false] ∧ set (.permission k l a p o) = [k, l, a, p, o]
          ∧ set (.value k l) = [k, l, false, false, false]
          ∧ (FaultCauses.format k l a p).group = 1 ∧ FaultCauses.conflict.group = 2 ∧ FaultCauses.unclaimed.group = 3
          ∧ FaultCauses.unavailable.group = 3 ∧ FaultCauses.noObject.group = 3 ∧ (FaultCauses.permission k l a p o).group = 4
          ∧ (FaultCauses.value k l).group = 5)
    ∧ (∀ (x : DropReason) (st : ResultStatus),
        (FaultCauses.undelivered x).group = 6 ∧ (FaultCauses.undelivered x).bits = 1 ∧ (FaultCauses.undelivered x).reason = x.code
          ∧ (FaultCauses.uncollected st).group = 6 ∧ (FaultCauses.uncollected st).bits = 2)
    ∧ (∀ c : FaultCauses, (∀ x, c ≠ .undelivered x) → c.reason = 0)
    ∧ (∀ c : FaultCauses, (∀ st, c ≠ .uncollected st) → c.held = none) ∧ (∀ st, (FaultCauses.uncollected st).held = some st)
    ∧ ([.exhausted, .refused, .unreached, .branchLost] : List DropReason).map DropReason.code = [1, 2, 3, 4]
    ∧ ([.ok, .exhausted, .refused, .unreached, .branchReset] : List ResultStatus).map (·.cpl.code) = [0, 6, 7, 8, 9]
    ∧ (∀ l : LiveEntry,
        (Entry.live l).code
          = match l.state with | .queued => 1 | .issued => 2 | .waiting => 3 | .complete _ => 4 | .disowned => 5)
    ∧ (∀ (op : ProbeOperation) (a : Address) (x : ProbeResult),
        [Probe.idle, .pending op a, .issued op a, .done op a x].map Probe.code = [0, 1, 2, 3])
    ∧ (∀ w : Word, [ProbeOperation.read, .write w].map ProbeOperation.code = [1, 2])
    ∧ (∀ w : Option Word,
        [ProbeResult.ok w, .later, .refused, .unreached, .unavailable, .branchReset].map ProbeResult.code = [0, 1, 2, 3, 4, 5])
    ∧ AlertKind.all.map AlertKind.number = [1, 2, 3, 4, 5, 6]
    ∧ ([.none, .queued, .queuedOwed] : List Marker).map Marker.code = [0, 1, 2]
    ∧ ∀ s : State,
        let r := s.record .alert
        r.length = 2 ∧ (bits (wordAt r 0) 8 5).toNat = s.alertDest.val ∧ bits (wordAt r 0) 16 6 = 0
          ∧ ∀ c ∈ AlertKind.all,
              bit (wordAt r 0) (c.number - 1) = (s.alerts.get c).enabled
                ∧ bit (wordAt r 1) (c.number - 1) = (s.alerts.get c).raised.isSome
                ∧ (bits (wordAt r 1) (16 + 2 * (c.number - 1)) 2).toNat = (s.alerts.get c).marker.code

/-- R149 to R153, R155: the first group that fails refuses an MR or MW: the fault entry with every cause of the group is handed over, the
request is answered with the group's status, and the object is left as it was. MANAGEMENT_WRITE meets READ-ONLY at IDENT, WIN-ACTIVE and
ENTRY, together with NOT-MANAGER when the requester is no manager; and it meets BAD-VALUE with an action of FAULT or PART, or an operation
of PROBE, that is not listed, together with OBJECT-BUSY while a probe is PENDING or ISSUED. Every row that is an MW is
served as the MANAGEMENT_WRITE of its packet, so all of this holds for each of them. -/
def Obligations.ManagementRefusalsFollowCheckOrder : Prop :=
  (∀ (c : Instr) (m : ManagementRequest) (s : State),
      trunkPacketOf c = some (.managementWrite m) → exec c s = exec (.managementWrite m) s)
    ∧ ∀ (m : ManagementRequest) (s u : State),
        let refused (kind : BitVec 8) (c : FaultCauses) (status : CplStatus) : State :=
          (u.handFault
              { causes := c, requester := m.requester, kind := kind, tag := m.tag, address := none, object := m.object
                branch := none, window := none, generation := u.generation }).answer m.requester m.tag (.completion status [])
        let lengthOk (write : Prop) (c : BitVec 8) : Prop :=
          (∀ k, ObjectClass.ofCode c = some k → m.length.toNat = recordLength k)
            ∧ (ObjectClass.ofCode c = none → 1 ≤ m.length.toNat ∧ m.length.toNat ≤ 8)
            ∧ (write → m.words.length = m.length.toNat) ∧ (¬ write → m.words = [])
        (s.Offers (.managementRead m) u →
            (m.object = none ∨ (∃ c i, m.object = some (c, i) ∧ ¬ lengthOk False c) →
                exec (.managementRead m) s = .next (refused 0x06 (.format false true false false) .format))
              ∧ ∀ c i, m.object = some (c, i) → lengthOk False c → Object.find c i = none →
                  exec (.managementRead m) s = .next (refused 0x06 .noObject .unclaimed))
          ∧ (s.Offers (.managementWrite m) u →
            (m.object = none ∨ (∃ c i, m.object = some (c, i) ∧ ¬ lengthOk True c) →
                exec (.managementWrite m) s = .next (refused 0x07 (.format false true false false) .format))
              ∧ ∀ c i, m.object = some (c, i) → lengthOk True c →
                  (Object.find c i = none → exec (.managementWrite m) s = .next (refused 0x07 .noObject .unclaimed))
                    ∧ ∀ o : Object, Object.find c i = some o →
                        let readOnly := o = .ident ∨ (∃ x, o = .winActive x) ∨ ∃ n, o = .entry n
                        (readOnly →
                            exec (.managementWrite m) s
                              = .next
                                  (refused 0x07
                                    (.permission false false false (!u.settings[m.requester].manager) true) .denied))
                          ∧ (¬ readOnly → u.settings[m.requester].manager = false →
                              exec (.managementWrite m) s = .next (refused 0x07 (.permission false false false true false) .denied))
                          ∧ (u.settings[m.requester].manager = true → (o = .part ∨ ∃ r, o = .fault r) → actionOf m.words ≠ 1 →
                              exec (.managementWrite m) s = .next (refused 0x07 (.value true false) .badValue))
                          ∧ ∀ (b : BranchId) (busy : Bool),
                              u.settings[m.requester].manager = true → o = .probe b → bits (wordAt m.words 0) 0 2 ≠ 1 →
                                bits (wordAt m.words 0) 0 2 ≠ 2 →
                                  (busy = true ↔
                                    (∃ x y, u.branches[b].probe = .pending x y) ∨ ∃ x y, u.branches[b].probe = .issued x y) →
                                    exec (.managementWrite m) s = .next (refused 0x07 (.value true busy) .badValue))

/-- R3, R117, R155, R156: WIN_STAGED_WRITE replaces record i of STAGED whole, when the controller is IDLE and a valid record has base page
≤ limit page and a branch value of 0 to 4; otherwise it is refused, with BAD-VALUE and OBJECT-BUSY as each applies. -/
def Obligations.WindowRecordIsStaged : Prop :=
  ∀ (m : ObjectWrite) (i : WindowId) (s u : State),
    s.Writes m .winStaged 4 u → m.index.toNat = i →
      let w := Window.ofWords m.words
      let bad := w.valid = true ∧ (w.limit < w.base ∨ 4 < w.branch)
      (¬ bad → u.controller = .idle →
          exec (.winStagedWrite m) s = .next { u.answerOk m with staged := u.staged.set i w })
        ∧ (bad ∨ u.controller ≠ .idle →
            exec (.winStagedWrite m) s = .next (u.refuseValue m .winStaged (decide bad) u.draining))

/-- R118, R119, R120, R131: IMMEDIATE in IDLE swaps: STAGED is copied into ACTIVE, the generation goes up by one, the outcome is DONE, and
COMMIT is raised with it. DRAIN in IDLE does the same when the drain condition holds, and else enters DRAINING with its timer started for
the drain limit. Both are refused while DRAINING. -/
def Obligations.ImmediateAndDrainCommit : Prop :=
  ∀ (m : ObjectWrite) (s u : State),
    m.index = 0 →
      let swapped : State :=
        ({ u.answerOk m with active := u.staged, generation := u.generation + 1, outcome := .done } : State).raise .commit 1
      (s.Writes (objectWithField m 0 0 4 1) .commit 2 u →
          (u.controller = .idle → exec (.immediate m) s = .next swapped)
            ∧ (u.controller ≠ .idle →
                exec (.immediate m) s = .next (u.refuseValue (objectWithField m 0 0 4 1) .commit false true)))
        ∧ (s.Writes (objectWithField m 0 0 4 2) .commit 2 u →
          (u.controller = .idle → u.drained = true → exec (.drain m) s = .next swapped)
            ∧ (u.controller = .idle → u.drained = false →
                exec (.drain m) s = .next { u.answerOk m with controller := .draining u.drainLimit })
            ∧ (u.controller ≠ .idle →
                exec (.drain m) s = .next (u.refuseValue (objectWithField m 0 0 4 2) .commit false true)))

/-- R124: CANCEL while DRAINING ends the drain without a swap: the controller is IDLE with its timer stopped, the outcome is CANCELLED,
and COMMIT is raised with it; in IDLE it is answered CPL OK and changes nothing. Any manager may send it. -/
def Obligations.CancelEndsDrain : Prop :=
  ∀ (m : ObjectWrite) (s u : State),
    s.Writes (objectWithField m 0 0 4 3) .commit 2 u → m.index = 0 →
      (u.controller ≠ .idle →
          exec (.cancel m) s
            = .next (({ u.answerOk m with controller := .idle, outcome := .cancelled } : State).raise .commit 3))
        ∧ (u.controller = .idle → exec (.cancel m) s = .next (u.answerOk m))

/-- R125: REVERT in IDLE copies ACTIVE into STAGED and changes nothing else; while DRAINING it is refused with OBJECT-BUSY. An MW of COMMIT
with an action that is not listed is refused with BAD-VALUE in either state (MANAGEMENT_WRITE). -/
def Obligations.RevertCopiesActiveIntoStaged : Prop :=
  (∀ (m : ObjectWrite) (s u : State),
      s.Writes (objectWithField m 0 0 4 4) .commit 2 u → m.index = 0 →
        (u.controller = .idle → exec (.revert m) s = .next { u.answerOk m with staged := u.active })
          ∧ (u.controller ≠ .idle →
              exec (.revert m) s = .next (u.refuseValue (objectWithField m 0 0 4 4) .commit false true)))
    ∧ ∀ (m : ObjectWrite) (s u : State),
        s.Writes m .commit 2 u → m.index = 0 → actionOf m.words ∉ ([1, 2, 3, 4] : List (BitVec 4)) →
          exec (.managementWrite (objectRequest m .commit)) s = .next (u.refuseValue m .commit true false)

/-- R154, R155, R160, R161: REQ_WRITE writes the quota, strict and manager of requester r together, and is refused with BAD-VALUE when the
quota is above 16 or it would clear the only manager's flag; TIMING_WRITE writes both limits, and is refused when either is 0. -/
def Obligations.RequesterAndTimingSettingsAreWritten : Prop :=
  (∀ (m : ObjectWrite) (r : Requester) (s u : State),
      s.Writes m .req 2 u → m.index.toNat = r →
        let w0 := wordAt m.words 0
        let lastManager := u.settings[r].manager = true ∧ ∀ x : Requester, x ≠ r → u.settings[x].manager = false
        let bad := 16 < bits w0 0 5 ∨ (bit w0 9 = false ∧ lastManager)
        (¬ bad →
            exec (.reqWrite m) s
              = .next
                  { u.answerOk m with
                    settings := u.settings.set r { quota := bits w0 0 5, strict := bit w0 8, manager := bit w0 9 } })
          ∧ (bad → exec (.reqWrite m) s = .next (u.refuseValue m .req true false)))
    ∧ ∀ (m : ObjectWrite) (s u : State),
        s.Writes m .timing 2 u → m.index = 0 →
          let collection := bits (wordAt m.words 0) 0 16
          let drain := bits (wordAt m.words 1) 0 16
          (collection ≠ 0 ∧ drain ≠ 0 →
              exec (.timingWrite m) s = .next { u.answerOk m with collectionLimit := collection, drainLimit := drain })
            ∧ (collection = 0 ∨ drain = 0 → exec (.timingWrite m) s = .next (u.refuseValue m .timing true false))

/-- R138: TAKE removes the oldest entry of log r, if it holds any, then clears the drop count if clear-drop-count is yes, and is answered
CPL OK in every case; no alert class changes. -/
def Obligations.TakeRemovesOldestFault : Prop :=
  ∀ (m : ObjectWrite) (r : Requester) (s u : State),
    s.Writes (objectWithField m 0 0 4 1) .fault 4 u → m.index.toNat = r →
      exec (.take m) s
        = .next
            { u.answerOk m with
              logs := u.logs.set r
                { entries := u.logs[r].entries.tail
                  drops := if bit (wordAt m.words 0) 8 = true then 0 else u.logs[r].drops } }

/-- R71, R79, R80, R83, R98, R155: BRANCH_SETTINGS_WRITE, HOLD_FLAG_SET, HOLD_FLAG_CLEARED, RESET_FLAG_SET and RESET_FLAG_CLEARED store
every setting and flag of the record (the row's own flag with the row's value), as long as the reset flag does not go from clear to set: a
reset flag that is set already is no event. A watermark that changes brings the level flag up to date, and LEVEL is raised when it goes
from clear to set. What the branch holds stays in place. A record with a value out of range is refused whole, whatever the flags. -/
def Obligations.BranchSettingsAndFlagsAreStored : Prop :=
  ∀ (c : Instr) (m w : ObjectWrite) (b : BranchId) (hold reset : Bool) (s u : State),
    WritesBranch c m w hold reset → s.Writes w .branch 4 u → m.index.toNat = b →
      let v := BranchSettings.ofWords m.words
      let br := u.branches[b]
      (¬ v.OutOfRange → (reset = true → br.reset = true) →
          exec c s
            = .next
                (({ u.answerOk m with branches := u.branches.set b (br.Stored v hold reset) } : State).RaisesLevel b br.level))
        ∧ (v.OutOfRange → exec c s = .next (u.refuseValue w .branch true false))

/-- R79, R80, R81, R98, R170: an MW of BRANCH that takes the reset flag from clear to set (RESET_FLAG_SET, or BRANCH_SETTINGS_WRITE,
HOLD_FLAG_SET or HOLD_FLAG_CLEARED whose record sets it) stores the settings and flags first; then the branch is RESET with its link DOWN
and what was on its way discarded, and from ACTIVE or HELD this is a branch loss. That the stopped link keeps its sequence numbers, resend
rounds and check failures is the model's (log 17, DEDUCED). A value out of range and a reset flag that is set already are in
BranchSettingsAndFlagsAreStored. -/
def Obligations.ResetFlagSetStopsBranch : Prop :=
  ∀ (c : Instr) (m w : ObjectWrite) (b : BranchId) (hold : Bool) (s u : State),
    WritesBranch c m w hold true → s.Writes w .branch 4 u → m.index.toNat = b → u.branches[b].reset = false →
      let v := BranchSettings.ofWords m.words
      let br := u.branches[b]
      ¬ v.OutOfRange →
        let t : State :=
          ({ u.answerOk m with
              branches := u.branches.set b
                { br.Stored v hold true with
                  link :=
                    { br.link with
                      up := false, replay := [], ackTimer := false, trainRun := 0, readyRun := 0, ready := false
                      readySent := false }
                  delivered := [], toSend := [] } } : State).RaisesLevel b br.level
        exec c s = .next (if br.link.up = true then t.branchLoss b else t)

/-- R93, R155, R156: PROBE_READ and PROBE_WRITE start a probe: PENDING on an ACTIVE or HELD branch, DONE with UNAVAILABLE on a DOWN or RESET
one; refused while one is PENDING or ISSUED, or with an address that is not word-aligned. -/
def Obligations.ProbeStartsOrIsRefused : Prop :=
  ∀ (c : Instr) (m w : ObjectWrite) (op : ProbeOperation) (b : BranchId) (s u : State),
    (c = .probeRead m ∧ w = objectWithField m 0 0 2 1 ∧ op = .read
        ∨ c = .probeWrite m ∧ w = objectWithField m 0 0 2 2 ∧ op = .write (wordAt m.words 3)) →
      s.Writes w .probe 4 u → m.index.toNat = b →
        let a := addressOf (wordAt m.words 1) (wordAt m.words 2)
        let bad := a.toNat % 4 ≠ 0
        let busy := (∃ x y, u.branches[b].probe = .pending x y) ∨ ∃ x y, u.branches[b].probe = .issued x y
        (¬ bad → ¬ busy →
            exec c s
              = .next
                  { u.answerOk m with
                    branches := u.branches.set b
                      { u.branches[b] with
                        probe :=
                          if u.branches[b].link.up = true ∧ u.branches[b].reset = false then .pending op a
                          else .done op a .unavailable } })
          ∧ (bad → busy → exec c s = .next (u.refuseValue w .probe true true))
          ∧ (bad → ¬ busy → exec c s = .next (u.refuseValue w .probe true false))
          ∧ (¬ bad → busy → exec c s = .next (u.refuseValue w .probe false true))

/-- R145: ALERT_ACKNOWLEDGE and ALERT_ENABLE, both an MW of ALERT (log 3): the destination is stored, then every class of the acknowledge
set is acknowledged, with LEVEL raised again when it is among them and a level flag is set, and then the enables are written in
ascending class number. -/
def Obligations.AlertWriteFollowsItsThreeParts : Prop :=
  ∀ (c : Instr) (m : ObjectWrite) (s u : State),
    c = .alertAcknowledge m ∨ c = .alertEnable m → s.Writes m .alert 2 u → m.index = 0 →
      let w0 := wordAt m.words 0
      let acked (k : AlertKind) : AlertClass :=
        if bit w0 (15 + k.number) = true then (u.alerts.get k).acknowledge else u.alerts.get k
      let t1 : State :=
        { u.answerOk m with
          alertDest := (bits w0 8 5).toFin
          alerts :=
            { fault := acked .fault, undelivered := acked .undelivered, uncollected := acked .uncollected, level := acked .level
              commit := acked .commit, restart := acked .restart } }
      let t2 :=
        if bit w0 19 = true ∧ (∃ b : BranchId, u.branches[b].level = true) then t1.raise .level t1.levelSet else t1
      exec c s
        = .next
            ((((((t2.enable .fault (bit w0 0)).enable .undelivered (bit w0 1)).enable .uncollected (bit w0 2)).enable .level
              (bit w0 3)).enable .commit (bit w0 4)).enable .restart (bit w0 5))

/-- R142, R144: an acknowledgement clears the raised flag and its detail and makes QUEUED-OWED QUEUED; writing the enabled flag of a class
queues its notice exactly when the flag was clear and is set, the class is raised and its marker is NONE. -/
def Obligations.AcknowledgeAndEnableFollowTheirRules : Prop :=
  (∀ a : AlertClass,
      (a.raised = none → a.acknowledge = a)
        ∧ ∀ d, a.raised = some d →
            a.acknowledge
              = { enabled := a.enabled, raised := none, marker := if a.marker = .queuedOwed then .queued else a.marker })
    ∧ ∀ (s : State) (c : AlertKind) (flag : Bool),
        let a := s.alerts.get c
        (∀ d, a = { enabled := false, raised := some d, marker := .none } → flag = true →
            s.enable c flag
              = { s with
                  alerts := s.alerts.put c { enabled := true, raised := some d, marker := .queued }
                  notices := s.notices ++ [{ seq := s.nextSeq, source := .alert c, dest := s.alertDest, payload := [d] }]
                  nextSeq := s.nextSeq + 1 })
          ∧ (flag = false ∨ a.enabled = true ∨ a.raised = none ∨ a.marker ≠ .none →
              s.enable c flag = { s with alerts := s.alerts.put c { a with enabled := flag } })

/-! ### Engines and queues (03, 04, 05) -/

/-- R60, R84, R85, R28, R62, R94: ENGINE_CHOICE on a branch without an outstanding request issues the first eligible source: the PENDING
probe in ACTIVE or HELD, then in ACTIVE the slot entry whose interval has passed, then the head of the queue: a READY posted item, or a
reference while the slot is empty. The response timer starts for the timeout as it stands. Nothing is issued otherwise. -/
def Obligations.EngineIssuesFirstEligibleSource : Prop :=
  ∀ (s : State) (b : BranchId),
    let br := s.branches[b]
    let s0 : State := { s with sent := [] }
    let ready := br.outstanding = none ∧ br.link.up = true ∧ br.reset = false
    let noProbe := ∀ op a, br.probe ≠ .pending op a
    let noSlot := ∀ x, br.slot = some x → x.passed = false
    (∀ op a, ready → br.probe = .pending op a →
        exec (.engineChoice b) s
          = .next
              (({ s0 with
                    branches := s.branches.set b
                      { br with probe := .issued op a, outstanding := some .probe, responseTimer := some br.timeout } } :
                  State).handToPort b (.request (op.issueWords a))))
      ∧ (∀ (x : RetrySlot) (l : LiveEntry),
          ready → noProbe → br.hold = false → br.slot = some x → x.passed = true → s.entries[x.entry] = .live l →
            exec (.engineChoice b) s
              = .next
                  (({ s0 with
                        entries := s.entries.set x.entry (.live { l with state := .issued, attempts := l.attempts + 1 })
                        branches := s.branches.set b
                          { br with
                            slot := none, outstanding := some (.entry x.entry), responseTimer := some br.timeout } } :
                      State).handToPort b (.request l.req.issueWords)))
      ∧ (∀ (p : PostedItem) (rest : List Item),
          ready → noProbe → br.hold = false → noSlot → br.queue = .posted p :: rest → p.state = .ready →
            exec (.engineChoice b) s
              = .next
                  (({ s0 with
                        branches := s.branches.set b
                          { br with
                            queue := .posted { p with state := .sent, attempts := p.attempts + 1 } :: rest
                            outstanding := some .posted, responseTimer := some br.timeout } } :
                      State).handToPort b (.request p.issueWords)))
      ∧ (∀ (n : EntryId) (rest : List Item) (l : LiveEntry),
          ready → noProbe → br.hold = false → br.slot = none → br.queue = .ref n :: rest → s.entries[n] = .live l →
            let v := s0.setQueue b rest
            exec (.engineChoice b) s
              = .next
                  (({ v with
                        entries := s.entries.set n (.live { l with state := .issued, attempts := l.attempts + 1 })
                        branches := v.branches.set b
                          { v.branches[b] with
                            outstanding := some (.entry n), responseTimer := some br.timeout } } :
                      State).handToPort b (.request l.req.issueWords)))
      ∧ (¬ ready
            ∨ noProbe
              ∧ (br.hold = true
                ∨ noSlot
                  ∧ (br.queue = [] ∨ (∃ p rest, br.queue = .posted p :: rest ∧ p.state ≠ .ready)
                    ∨ (br.slot.isSome = true ∧ ∃ n rest, br.queue = .ref n :: rest)) ) →
          exec (.engineChoice b) s = .next s0)

/-- R29 to R34, R89, R91, R122: DONE, LATER, REFUSE and RESPONSE_TIMEOUT end the issue of an entry: an ISSUED entry completes with OK and
its data, with REFUSED, with UNREACHED, or with EXHAUSTED at the budget, and below the budget a LATER parks it in the retry slot; a
DISOWNED entry becomes FREE; the end of the last counted work ends a drain. R33, R109: the fence that a completion records is the number of
the last notice of the branch in the queue of notices, and there is none when the queue holds no notice of the branch. -/
def Obligations.EntryIssueEndsByAnswerOrTimeout : Prop :=
  (∀ (s : State) (b : BranchId), (∀ n ∈ s.notices, ∀ code, n.source ≠ .target b code) → s.youngestFrom b = none) ∧
  (∀ (s : State) (b : BranchId) (before after : List Notice) (n : Notice) (code : BitVec 8),
      s.notices = before ++ n :: after → n.source = .target b code → (∀ x ∈ after, ∀ code', x.source ≠ .target b code') →
        s.youngestFrom b = some n.seq) ∧
  ∀ (b : BranchId) (n : EntryId) (l : LiveEntry) (c : Instr) (e : Ending) (s u : State),
    s.EndsIssue b c e (if l.req.kind = .wrn then 0 else l.req.length.toNat) u →
      u.branches[b].outstanding = some (.entry n) → u.entries[n] = .live l →
        let v := u.IssueEnded b
        let ends (x : Entry) : State := ({ v with entries := u.entries.set n x } : State).drainEnd
        (l.state = .disowned → exec c s = .next (ends .free))
          ∧ (l.state = .issued →
              exec c s
                = .next
                    (match e with
                      | .done ws => ends (l.completeIn u .ok (if l.req.kind = .wrn then [] else ws))
                      | .refuse => ends (l.completeIn u .refused [])
                      | .timeout => ends (l.completeIn u .unreached [])
                      | .later =>
                        if l.attempts < u.branches[b].budget.toNat then
                          ({ v with
                              entries := u.entries.set n (.live { l with state := .waiting })
                              branches := v.branches.set b
                                { v.branches[b] with
                                  slot := some { entry := n, interval := u.branches[b].interval, passed := false } } } :
                            State).drainEnd
                        else ends (l.completeIn u .exhausted [])))

/-- R63 to R67, R89, R91, R122: the same four commands end the issue of the posted item at the head: a DONE delivers it; a LATER below the
budget puts it in BACKOFF for the retry interval; and it is dropped with EXHAUSTED, REFUSED or UNREACHED, its UNDELIVERED fault handed
over after it has left the queue. -/
def Obligations.PostedIssueEndsByAnswerOrTimeout : Prop :=
  ∀ (b : BranchId) (p : PostedItem) (rest : List Item) (c : Instr) (e : Ending) (s u : State),
    s.EndsIssue b c e 0 u → u.branches[b].outstanding = some .posted → u.branches[b].queue = .posted p :: rest →
      let v := u.IssueEnded b
      let dropped (r : DropReason) : State :=
        ((v.setQueue b rest).handFault
          { causes := .undelivered r, requester := p.requester, kind := 0x03, tag := p.tag, address := some p.address
            object := none, branch := some b, window := none, generation := p.generation }).drainEnd
      exec c s
        = .next
            (match e with
              | .done _ => (v.setQueue b rest).drainEnd
              | .refuse => dropped .refused
              | .timeout => dropped .unreached
              | .later =>
                if p.attempts < u.branches[b].budget.toNat then
                  ({ v with
                      branches := v.branches.set b
                        { v.branches[b] with
                          queue := .posted { p with state := .backoff u.branches[b].interval } :: rest } } : State).drainEnd
                else dropped .exhausted)

/-- R94: the same four commands end the probe's one issue: the probe is DONE with OK and the read word, LATER, REFUSED or UNREACHED. -/
def Obligations.ProbeIssueEndsByAnswerOrTimeout : Prop :=
  ∀ (b : BranchId) (op : ProbeOperation) (a : Address) (c : Instr) (e : Ending) (s u : State),
    s.EndsIssue b c e (if op = .read then 1 else 0) u → u.branches[b].outstanding = some .probe →
      u.branches[b].probe = .issued op a →
        let v := u.IssueEnded b
        exec c s
          = .next
              { v with
                branches := v.branches.set b
                  { v.branches[b] with
                    probe :=
                      .done op a
                        (match e with
                          | .done ws => .ok (if op = .read then ws.head? else none)
                          | .later => .later
                          | .refuse => .refused
                          | .timeout => .unreached) } }

/-- R92: STRAY_TARGET_PACKET and the answers: a packet of a kind that a target does not send, an answer while no request is outstanding,
and an answer that is not well formed are discarded: nothing changes but that the packet is taken. R89: a response timer that does not run
does not expire: that RESPONSE_TIMEOUT without an outstanding request or with its timer stopped changes nothing is the model's choice of
what such a command is (log 7). -/
def Obligations.StrayPacketsAreDiscarded : Prop :=
  (∀ (b : BranchId) (kind : BitVec 8) (s u : State),
      s.OffersTarget b (.other kind) u → exec (.strayTargetPacket b (.other kind)) s = .next u)
    ∧ (∀ (b : BranchId) (x : TargetAnswer) (count : BitVec 6) (ws : List Word) (s u : State),
        s.OffersTarget b (.answer x count ws) u →
          (u.branches[b].outstanding = none
            ∨ ∃ o, u.branches[b].outstanding = some o
              ∧ (x = .done ∧ (count.toNat ≠ u.doneWords b o ∨ ws.length ≠ u.doneWords b o)
                ∨ x ≠ .done ∧ (count ≠ 0 ∨ ws ≠ []))) →
            exec (answerCommand b x count ws) s = .next u ∧ exec (.strayTargetPacket b (.answer x count ws)) s = .next u)
    ∧ ∀ (b : BranchId) (s : State),
        s.branches[b].outstanding = none ∨ s.branches[b].responseTimer = none →
          exec (.responseTimeout b) s = .next { s with sent := [] }

/-- R96, R102, R103: BNTC: while the queue holds fewer than 26 target notices it takes the notice at its tail with the next number and
the branch's destination, and the card is answered DONE; at 26 nothing is stored and the card is answered LATER; a notice with more than
4 words, or whose count differs from its words, is discarded. -/
def Obligations.CardNoticeIsTakenOrRefused : Prop :=
  ∀ (b : BranchId) (count : BitVec 3) (code : BitVec 8) (ws : List Word) (s u : State),
    s.OffersTarget b (.notice count code ws) u →
      let wellFormed := count.toNat ≤ 4 ∧ count.toNat = ws.length
      (wellFormed → u.targetCount < 26 →
          exec (.bntc b count code ws) s
            = .next
                (({ u with
                      notices := u.notices ++ [{ seq := u.nextSeq, source := .target b code, dest := u.branches[b].dest, payload := ws }]
                      nextSeq := u.nextSeq + 1 } : State).handToPort b (.noticeAnswer true)))
        ∧ (wellFormed → 26 ≤ u.targetCount → exec (.bntc b count code ws) s = .next (u.handToPort b (.noticeAnswer false)))
        ∧ (¬ wellFormed → exec (.bntc b count code ws) s = .next u)

/-- R88, R64, R41: RETRY_INTERVAL_PASSES marks the slot's interval passed and leaves the entry WAITING; BACKOFF_INTERVAL_ENDS makes the head
in BACKOFF READY; COLLECTION_TIMER_EXPIRY makes a COMPLETE entry FREE and hands its UNCOLLECTED fault over. A timer that does not run does
not expire. -/
def Obligations.IntervalsAndCollectionTimersRunOut : Prop :=
  (∀ (s : State) (b : BranchId),
      let br := s.branches[b]
      let s0 : State := { s with sent := [] }
      (∀ x, br.slot = some x →
          exec (.retryIntervalPasses b) s
            = .next { s0 with branches := s.branches.set b { br with slot := some { x with passed := true } } })
        ∧ (br.slot = none → exec (.retryIntervalPasses b) s = .next s0)
        ∧ (∀ p rest i, br.queue = .posted p :: rest → p.state = .backoff i →
            exec (.backoffIntervalEnds b) s
              = .next
                  { s0 with branches := s.branches.set b { br with queue := .posted { p with state := .ready } :: rest } })
        ∧ ((∀ p rest i, br.queue = .posted p :: rest → p.state ≠ .backoff i) → exec (.backoffIntervalEnds b) s = .next s0))
    ∧ ∀ (s : State) (n : EntryId),
        let s0 : State := { s with sent := [] }
        (∀ l c, s.entries[n] = .live l → l.state = .complete c →
            exec (.collectionTimerExpiry n) s
              = .next
                  (({ s0 with entries := s.entries.set n .free } : State).handFault
                    { causes := .uncollected c.status, requester := l.req.requester, kind := l.req.kind.code, tag := l.req.tag
                      address := some l.req.address, object := none, branch := some l.req.branch, window := none
                      generation := l.req.generation }))
          ∧ ((∀ l c, s.entries[n] = .live l → l.state ≠ .complete c) → exec (.collectionTimerExpiry n) s = .next s0)

/-- R123: DRAIN_TIMER_EXPIRY while DRAINING ends the drain without a swap: the controller is IDLE, the outcome is TIMED-OUT, and COMMIT is
raised with it; the banks, the generation and the work are untouched. In IDLE no timer runs. -/
def Obligations.DrainTimerEndsDrain : Prop :=
  ∀ s : State,
    (s.controller ≠ .idle →
        exec .drainTimerExpiry s
          = .next (({ s with sent := [], controller := .idle, outcome := .timedOut } : State).raise .commit 2))
      ∧ (s.controller = .idle → exec .drainTimerExpiry s = .next { s with sent := [] })

/-! ### Ports (05, 09) -/

/-- R106, R107, R109, R143: TRANSMIT_CHOICE on an UP trunk whose replay list has room sends the oldest answer, or else the head notice. A
target notice that departs makes absent the fences that name it, and leaves every other entry as it was; an alert notice that departs
clears its class's marker, or queues the owed notice of a class that is raised and enabled. -/
def Obligations.TrunkSendsAnswersBeforeNotices : Prop :=
  (∀ (b : BranchId) (seq : BitVec 16) (l : LiveEntry) (c : Completion),
      l.state = .complete c → l.req.branch = b → c.fence = some seq →
        (Entry.live l).unfence b seq = .live { l with state := .complete { c with fence := none } }) ∧
  (∀ (b : BranchId) (seq : BitVec 16) (e : Entry),
      (∀ (l : LiveEntry) (c : Completion), e = .live l → l.state = .complete c → l.req.branch = b → c.fence ≠ some seq) →
        e.unfence b seq = e) ∧
  ∀ s : State,
    let l := s.trunk.link
    let after (answers : List Answer) (notices : List Notice) (ws : List Word) : State :=
      { s with
        trunk :=
          { s.trunk with
            answers := answers
            link := { l with nextSend := l.nextSend + 1, replay := l.replay ++ [(l.nextSend, ws)], ackTimer := true } }
        notices := notices, sent := [(.trunk, .data l.nextSend ws)] }
    (l.up = true → l.replay.length < 16 →
        (∀ a rest, s.trunk.answers = a :: rest → exec .transmitChoice s = .next (after rest s.notices a.toWords))
          ∧ (∀ n rest b code, s.trunk.answers = [] → s.notices = n :: rest → n.source = .target b code →
              exec .transmitChoice s
                = .next
                    { after [] rest n.toWords with
                      entries := Vector.ofFn (fun m : EntryId => s.entries[m].unfence b n.seq) })
          ∧ (∀ n rest c, s.trunk.answers = [] → s.notices = n :: rest → n.source = .alert c →
              let a := s.alerts.get c
              (∀ d, a = { enabled := true, raised := some d, marker := .queuedOwed } →
                  exec .transmitChoice s
                    = .next
                        { after []
                            (rest ++ [{ seq := s.nextSeq, source := .alert c, dest := s.alertDest, payload := [d] }]) n.toWords with
                          alerts := s.alerts.put c { a with marker := .queued }, nextSeq := s.nextSeq + 1 })
                ∧ (a.enabled = false ∨ a.raised = none ∨ a.marker ≠ .queuedOwed →
                  exec .transmitChoice s
                    = .next { after [] rest n.toWords with alerts := s.alerts.put c { a with marker := .none } }))
          ∧ (s.trunk.answers = [] → s.notices = [] → exec .transmitChoice s = .next { s with sent := [] }))
      ∧ (l.up = false ∨ 16 ≤ l.replay.length → exec .transmitChoice s = .next { s with sent := [] })

/-- R168, R171, R172, R166: DATA_FRAME on an UP port: the number expected is delivered and acknowledged while the port has a place, and
without one the frame is discarded without ACK or RESEND; one of the 16 numbers before is acknowledged again; any other number is answered
by a RESEND. On a DOWN port the frame breaks the runs of R169. The model's own: that the ACK leaves in the delivering event (log 21: R168
gives it 4 µs), that a broken run keeps that a ready frame has been sent (log 14, DEDUCED), what the ACK names before any frame has been
accepted (log 22), and where a delivered packet of unknown kind has its requester and tag (log 24, DEDUCED). -/
def Obligations.DataFramesAreDeliveredInOrder : Prop :=
  ∀ (p : Port) (number : BitVec 8) (ws : List Word) (s : State),
    1 ≤ ws.length → ws.length ≤ 40 →
      let l := s.link p
      let s0 : State := { s with sent := [] }
      let v := s0.setLink p { l with checkFailures := 0 }
      (l.up = true →
          (number = l.expected →
              (p = .trunk → s.trunk.answers.length + s.trunk.delivered.length < 32 →
                  exec (.dataFrame p number ws) s
                    = .next
                        { s with
                          trunk :=
                            { s.trunk with
                              link := { l with checkFailures := 0, expected := l.expected + 1 }
                              delivered := s.trunk.delivered ++ [TrunkPacket.ofWords ws] }
                          sent := [(p, .ack number)] })
                ∧ (∀ b : BranchId, p = .branch b → s.branches[b].noticePlaces < 16 →
                    exec (.dataFrame p number ws) s
                      = .next
                          { s with
                            branches := s.branches.set b
                              { s.branches[b] with
                                link := { l with checkFailures := 0, expected := l.expected + 1 }
                                delivered := s.branches[b].delivered ++ [TargetPacket.ofWords ws] }
                            sent := [(p, .ack number)] })
                ∧ ((p = .trunk ∧ 32 ≤ s.trunk.answers.length + s.trunk.delivered.length
                      ∨ ∃ b : BranchId, p = .branch b ∧ 16 ≤ s.branches[b].noticePlaces) →
                    exec (.dataFrame p number ws) s = .next v))
            ∧ (1 ≤ (l.expected - number).toNat → (l.expected - number).toNat ≤ 16 →
                exec (.dataFrame p number ws) s = .next { v with sent := [(p, .ack (l.expected - 1))] })
            ∧ (16 < (l.expected - number).toNat →
                exec (.dataFrame p number ws) s = .next { v with sent := [(p, .resend l.expected)] }))
        ∧ (l.up = false →
            exec (.dataFrame p number ws) s
              = .next (s0.setLink p { l with checkFailures := 0, trainRun := 0, readyRun := 0, ready := false }))

/-- R167, R166, R169: ACK on an UP port removes every frame up to the one it names, restarts or stops the acknowledgement timer and sets the
count of resend rounds to 0, and a branch port then sends what waited for room (log 10); RESEND sends again every frame from the one it
names, in order; each changes no list when its frame is not in it. On a DOWN port both break the runs; that a broken run keeps that a ready
frame has been sent is the model's (log 14, DEDUCED). -/
def Obligations.AckAndResendUseReplayList : Prop :=
  ∀ (p : Port) (n : BitVec 8) (s : State),
    let l := s.link p
    let s0 : State := { s with sent := [] }
    let v := s0.setLink p { l with checkFailures := 0 }
    (∀ (before rest : List (BitVec 8 × List Word)) (ws : List Word),
        l.up = true → l.replay = before ++ (n, ws) :: rest → (∀ f ∈ before, f.1 ≠ n) →
          let w := s0.setLink p
            { l with checkFailures := 0, replay := rest, ackTimer := decide (rest ≠ []), resendRounds := 0 }
          exec (.ack p n) s = .next (match p with | .trunk => w | .branch b => w.sendWaiting b s.branches[b].toSend)
            ∧ exec (.resend p n) s
              = .next { v with sent := ((n, ws) :: rest).map (fun f => (p, .data f.1 f.2)) })
      ∧ (l.up = true → (∀ f ∈ l.replay, f.1 ≠ n) → exec (.ack p n) s = .next v ∧ exec (.resend p n) s = .next v)
      ∧ (l.up = false →
          let w := s0.setLink p { l with checkFailures := 0, trainRun := 0, readyRun := 0, ready := false }
          exec (.ack p n) s = .next w ∧ exec (.resend p n) s = .next w)

/-- R169, R170, R146: TRAIN on a DOWN port that may train lengthens its runs (counted to 2 and to 4) and sets the ready flag at 2; on an UP
port it loses the link. TRAIN_FRAME_SEND sends one TRAIN frame with the ready flag. Either brings the port UP once 4 frames with the ready
flag have come in a row and one has been sent: sequence numbers, replay list, timer and failure counts start anew, and RESTART is raised
with TRUNK when the trunk had been lost. -/
def Obligations.TrainingBringsPortUp : Prop :=
  (∀ (s : State) (p : Port),
      let fresh : LinkPort := { LinkPort.fresh with up := true }
      s.comeUp p
        = match p with
          | .branch b => s.setLink (.branch b) fresh
          | .trunk =>
            if s.trunk.lost = true then
              ({ s with trunk := { s.trunk with link := fresh, lost := false } } : State).raise .restart 4
            else { s with trunk := { s.trunk with link := fresh } })
    ∧ ∀ (s : State) (p : Port),
        let l := s.link p
        let s0 : State := { s with sent := [] }
        let mayTrain := ∀ b : BranchId, p = .branch b → s.branches[b].reset = false
        (∀ ready : Bool,
            (l.up = true → exec (.train p ready) s = .next ((s0.setLink p { l with checkFailures := 0 }).linkLost p))
              ∧ (l.up = false → mayTrain →
                  let l' : LinkPort :=
                    { l with
                      checkFailures := 0, trainRun := min (l.trainRun + 1) 2
                      readyRun := if ready then min (l.readyRun + 1) 4 else 0, ready := l.ready || decide (1 ≤ l.trainRun) }
                  let v := s0.setLink p l'
                  exec (.train p ready) s = .next (if l'.readyRun = 4 ∧ l.readySent = true then v.comeUp p else v))
              ∧ (l.up = false → ¬ mayTrain → exec (.train p ready) s = .next (s0.setLink p { l with checkFailures := 0 })))
          ∧ (l.up = false → mayTrain →
              let v : State := { s.setLink p { l with readySent := l.readySent || l.ready } with sent := [(p, .train l.ready)] }
              exec (.trainFrameSend p) s
                = .next (if 4 ≤ l.readyRun ∧ (l.readySent || l.ready) = true then v.comeUp p else v))
          ∧ (l.up = true ∨ ¬ mayTrain → exec (.trainFrameSend p) s = .next s0)

/-- R165, R166, R168, R169, R170: CHECK_FAILURE: words that fail the check are counted; an UP port sends a RESEND that names the number
expected, and loses its link when the count reaches 8 (the RESEND first, log 15); a DOWN port breaks its runs, and keeps that a ready frame
has been sent (log 14, DEDUCED). A DATA frame of no words, or of more than 40, is such a frame. A CHECK_FAILURE with words that pass the
check is the frame that they spell (log 3, the model's choice). -/
def Obligations.CheckFailuresAreCounted : Prop :=
  (∀ (p : Port) (raw : List Word) (s : State),
      Frame.ofWords raw = none →
        let l := s.link p
        let s0 : State := { s with sent := [] }
        let v : State := { s0.setLink p { l with checkFailures := l.checkFailures + 1 } with sent := [(p, .resend l.expected)] }
        (l.up = true → l.checkFailures + 1 < 8 → exec (.checkFailure p raw) s = .next v)
          ∧ (l.up = true → 8 ≤ l.checkFailures + 1 → exec (.checkFailure p raw) s = .next (v.linkLost p))
          ∧ (l.up = false →
              exec (.checkFailure p raw) s
                = .next
                    (s0.setLink p
                      { l with checkFailures := l.checkFailures + 1, trainRun := 0, readyRun := 0, ready := false }))
          ∧ ∀ (n : BitVec 8) (ws : List Word),
              ws = [] ∨ 40 < ws.length → exec (.dataFrame p n ws) s = exec (.checkFailure p raw) s)
    ∧ ∀ (p : Port) (raw : List Word) (f : Frame) (s : State),
        Frame.ofWords raw = some f →
          exec (.checkFailure p raw) s
            = match f with
              | .data n ws => exec (.dataFrame p n ws) s
              | .ack n => exec (.ack p n) s
              | .resend n => exec (.resend p n) s
              | .train ready => exec (.train p ready) s

/-- R167, R170: ACKNOWLEDGEMENT_TIMER_EXPIRY on an UP port whose timer runs sends every frame of the replay list again and counts a round;
when four rounds in a row have run without an ACK that removes a frame, the expiry loses the link (log 12). A stopped timer does not
expire. -/
def Obligations.AckTimerResendsOrLosesLink : Prop :=
  ∀ (p : Port) (s : State),
    let l := s.link p
    let s0 : State := { s with sent := [] }
    (l.up = true → l.ackTimer = true → l.resendRounds < 4 →
        exec (.acknowledgementTimerExpiry p) s
          = .next
              { s.setLink p { l with resendRounds := l.resendRounds + 1 } with
                sent := l.replay.map (fun f => (p, .data f.1 f.2)) })
      ∧ (l.up = true → l.ackTimer = true → 4 ≤ l.resendRounds →
          exec (.acknowledgementTimerExpiry p) s = .next (s0.linkLost p))
      ∧ (l.up = false ∨ l.ackTimer = false → exec (.acknowledgementTimerExpiry p) s = .next s0)

/-! ### Invariants -/

/-- The machine right after reset meets every law below. -/
def Obligations.ResetMeetsTheLaws : Prop :=
  State.reset.WindowLaw ∧ State.reset.ManagerLaw ∧ State.reset.PairLaw ∧ State.reset.QueueLaw ∧ State.reset.NoticeLaw
    ∧ State.reset.FenceLaw ∧ State.reset.LogLaw ∧ State.reset.SettingsLaw ∧ State.reset.LevelLaw ∧ State.reset.EntryPlaces
    ∧ State.reset.EngineLaw ∧ State.reset.DownLaw ∧ State.reset.TrunkDownLaw ∧ State.reset.DrainLaw ∧ State.reset.PortLaw

/-- R3, R154: every step keeps that every valid window record in either bank has base page ≤ limit page and names a branch or SINK; and
every step keeps that the manager set is not empty. -/
def Obligations.WindowAndManagerLawsAreKept : Prop := Kept State.WindowLaw ∧ Kept State.ManagerLaw

/-- R27: every step keeps that no two non-FREE entries carry the same requester and tag. -/
def Obligations.PairLawIsKept : Prop := Kept State.PairLaw

/-- R56: every step keeps that no branch queue holds more than 16 items or more than 256 words of posted data. -/
def Obligations.QueueLawIsKept : Prop := Kept State.QueueLaw

/-- R105, R140: every step keeps that the queue of notices holds at most 26 target notices and at most one alert notice of a class, as the
markers say; so it never needs more than 32 places. -/
def Obligations.NoticeLawIsKept : Prop :=
  Kept State.NoticeLaw ∧ ∀ s : State, s.NoticeLaw → s.notices.length ≤ 32

/-- R109, R37: every step keeps that a fence that is present names a target notice of the entry's branch that is still in the queue. -/
def Obligations.FenceLawIsKept : Prop := Kept State.FenceLaw

/-- R135, R98, R148, R70: every step keeps the bounds of the fault logs; the ranges of all settings; and, with the ranges, that each level
flag is set exactly while the item count is equal to or above the watermark. -/
def Obligations.LogSettingsAndLevelLawsAreKept : Prop :=
  Kept State.LogLaw ∧ Kept State.SettingsLaw ∧ Kept (fun s => s.SettingsLaw ∧ s.LevelLaw)

/-- R24, R58, R84, R87, R81, R48, R122: every step keeps where entries, posted items and probes stand: queue, outstanding request and retry
slot agree with the entries' states; a DOWN branch holds nothing; while the trunk is DOWN only DISOWNED entries live; and a controller
that is DRAINING has work left. -/
def Obligations.PlacesOfWorkAreKept : Prop :=
  Kept (fun s => s.EntryPlaces ∧ s.EngineLaw ∧ s.DownLaw ∧ s.TrunkDownLaw ∧ s.DrainLaw)

/-- R166, R167, R171, R172: every step keeps the bounds of the five ports, and that a port whose link is DOWN holds no packet. That no
branch request waits at a port while none is outstanding (R172 gives at most one) rests on the model's withdrawing it (log 11), and the
bound of 4 resend rounds on its reading of the fourth round (log 12). -/
def Obligations.PortLawIsKept : Prop := Kept State.PortLaw

/-! ### Packets and frames -/

/-- R173, R174: reading the words of a packet gives the packet: for every memory request, ABN and management request from the trunk, every
packet of unknown kind (whose requester and tag the model reads where every trunk request has them: log 24, DEDUCED), and every packet
of a target. And the packets that the relay sends hold each field at its bits, with the codes of
R174 and 0 in the bits that R173 does not name: TAKEN, DEF, BSY and CPL; NTC; BRD, BWR and BXC for an entry, a posted item and a probe; and
DONE and LATER to a BNTC. -/
def Obligations.PacketsReadBack : Prop :=
  (∀ (k : MemKind) (q : MemoryRequest), q.wellFormed = true →
      TrunkPacket.ofWords (TrunkPacket.memory k q).toWords = .memory k q)
    ∧ (∀ (r : Requester) (t : Tag) (extra : Nat),
        TrunkPacket.ofWords (TrunkPacket.abandon r t extra).toWords = .abandon r t extra)
    ∧ (∀ m : ManagementRequest, m.wellFormed = true →
        TrunkPacket.ofWords (TrunkPacket.managementRead m).toWords = .managementRead m
          ∧ TrunkPacket.ofWords (TrunkPacket.managementWrite m).toWords = .managementWrite m)
    ∧ (∀ (kind : BitVec 8) (r : Requester) (t : Tag), requestKind kind = false →
        TrunkPacket.ofWords (TrunkPacket.unknown kind r t).toWords = .unknown kind r t)
    ∧ (∀ p : TargetPacket, p.wellFormed = true → TargetPacket.ofWords p.toWords = p)
    ∧ (∀ x : Answer,
        let ws := x.toWords
        let w0 := wordAt ws 0
        bits w0 21 3 = 0 ∧ (bits w0 16 5).toNat = x.requester.val ∧ (bits w0 12 4).toNat = x.tag.val
          ∧ (x.body = .taken → ws.length = 1 ∧ bits w0 24 8 = 0x10 ∧ bits w0 0 12 = 0)
          ∧ (x.body = .deferred → ws.length = 1 ∧ bits w0 24 8 = 0x11 ∧ bits w0 0 12 = 0)
          ∧ (∀ reason, x.body = .busy reason →
              ws.length = 1 ∧ bits w0 24 8 = 0x12 ∧ bits w0 6 6 = 0 ∧ (bits w0 0 6).toNat = reason.code)
          ∧ ∀ status data, x.body = .completion status data →
              ws.length = 1 + data.length ∧ ws.drop 1 = data ∧ bits w0 24 8 = 0x13 ∧ (bits w0 0 6).toNat = status.code
                ∧ (data.length < 64 → (bits w0 6 6).toNat = data.length))
    ∧ (∀ x : Notice,
        let ws := x.toWords
        let w0 := wordAt ws 0
        ws.length = 2 + x.payload.length ∧ ws.drop 2 = x.payload ∧ bits w0 24 8 = 0x14 ∧ bits w0 21 3 = 0
          ∧ (bits w0 16 5).toNat = x.dest.val ∧ bits w0 11 2 = 0 ∧ bits (wordAt ws 1) 16 16 = 0 ∧ bits (wordAt ws 1) 0 16 = x.seq
          ∧ (x.payload.length < 8 → (bits w0 8 3).toNat = x.payload.length)
          ∧ (∀ b code, x.source = .target b code → (bits w0 13 3).toNat = b.val ∧ bits w0 0 8 = code)
          ∧ ∀ c, x.source = .alert c → bits w0 13 3 = 7 ∧ (bits w0 0 8).toNat = c.number)
    ∧ (∀ q : EntryRequest,
        (q.kind = .rd → IsBranchRequest q.issueWords 0x20 q.length q.address [])
          ∧ (q.kind = .wrn → IsBranchRequest q.issueWords 0x21 q.length q.address q.data)
          ∧ (q.kind = .xch → IsBranchRequest q.issueWords 0x22 q.length q.address q.data))
    ∧ (∀ p : PostedItem, IsBranchRequest p.issueWords 0x21 p.length p.address p.data)
    ∧ (∀ (a : Address) (w : Word),
        IsBranchRequest (ProbeOperation.read.issueWords a) 0x20 1 a []
          ∧ IsBranchRequest ((ProbeOperation.write w).issueWords a) 0x21 1 a [w])
    ∧ (∀ ws : List Word, (BranchPacket.request ws).toWords = ws)
    ∧ (BranchPacket.noticeAnswer true).toWords = [0x28000000] ∧ (BranchPacket.noticeAnswer false).toWords = [0x29000000]
    ∧ ([.ok, .format, .conflict, .unclaimed, .unavailable, .denied, .exhausted, .refused, .unreached, .branchReset, .noEntry, .badValue,
          .objectBusy] : List CplStatus).map CplStatus.code = List.range 13
    ∧ ([.tableFull, .quota, .queueFull, .words, .draining, .tagHeld] : List BusyReason).map BusyReason.code = [1, 2, 3, 4, 5, 6]

/-- R165, R166: a frame read from the words that spell it is the frame: every DATA frame of 1 to 40 words, every ACK, RESEND and TRAIN. -/
def Obligations.FramesReadBack : Prop :=
  (∀ (n : BitVec 8) (ws : List Word), 1 ≤ ws.length → ws.length ≤ 40 →
      Frame.ofWords (Frame.data n ws).toWords = some (.data n ws))
    ∧ (∀ n : BitVec 8,
        Frame.ofWords (Frame.ack n).toWords = some (.ack n) ∧ Frame.ofWords (Frame.resend n).toWords = some (.resend n))
    ∧ ∀ ready : Bool, Frame.ofWords (Frame.train ready).toWords = some (.train ready)
end

