-- ==== Sys2Proof/Laws/State.lean ====
section
/-! SUPPORT. One lemma for each field that a basic update of State leaves alone, and the reads of the fields it writes. -/

namespace Sys2Proof.Machine

@[simp] theorem State.quiet_trunk (s : State) : s.quiet.trunk = s.trunk := rfl
@[simp] theorem State.quiet_branches (s : State) : s.quiet.branches = s.branches := rfl
@[simp] theorem State.quiet_staged (s : State) : s.quiet.staged = s.staged := rfl
@[simp] theorem State.quiet_active (s : State) : s.quiet.active = s.active := rfl
@[simp] theorem State.quiet_generation (s : State) : s.quiet.generation = s.generation := rfl
@[simp] theorem State.quiet_entries (s : State) : s.quiet.entries = s.entries := rfl
@[simp] theorem State.quiet_notices (s : State) : s.quiet.notices = s.notices := rfl
@[simp] theorem State.quiet_nextSeq (s : State) : s.quiet.nextSeq = s.nextSeq := rfl
@[simp] theorem State.quiet_logs (s : State) : s.quiet.logs = s.logs := rfl
@[simp] theorem State.quiet_alerts (s : State) : s.quiet.alerts = s.alerts := rfl
@[simp] theorem State.quiet_alertDest (s : State) : s.quiet.alertDest = s.alertDest := rfl
@[simp] theorem State.quiet_controller (s : State) : s.quiet.controller = s.controller := rfl
@[simp] theorem State.quiet_outcome (s : State) : s.quiet.outcome = s.outcome := rfl
@[simp] theorem State.quiet_settings (s : State) : s.quiet.settings = s.settings := rfl
@[simp] theorem State.quiet_collectionLimit (s : State) : s.quiet.collectionLimit = s.collectionLimit := rfl
@[simp] theorem State.quiet_drainLimit (s : State) : s.quiet.drainLimit = s.drainLimit := rfl
@[simp] theorem State.quiet_resetCause (s : State) : s.quiet.resetCause = s.resetCause := rfl
@[simp] theorem State.quiet_fresh (s : State) : s.quiet.fresh = s.fresh := rfl
@[simp] theorem State.quiet_pending (s : State) : s.quiet.pending = s.pending := rfl

@[simp] theorem State.emit_trunk (s : State) (p : Port) (f : Frame) : (s.emit p f).trunk = s.trunk := rfl
@[simp] theorem State.emit_branches (s : State) (p : Port) (f : Frame) : (s.emit p f).branches = s.branches := rfl
@[simp] theorem State.emit_staged (s : State) (p : Port) (f : Frame) : (s.emit p f).staged = s.staged := rfl
@[simp] theorem State.emit_active (s : State) (p : Port) (f : Frame) : (s.emit p f).active = s.active := rfl
@[simp] theorem State.emit_generation (s : State) (p : Port) (f : Frame) : (s.emit p f).generation = s.generation := rfl
@[simp] theorem State.emit_entries (s : State) (p : Port) (f : Frame) : (s.emit p f).entries = s.entries := rfl
@[simp] theorem State.emit_notices (s : State) (p : Port) (f : Frame) : (s.emit p f).notices = s.notices := rfl
@[simp] theorem State.emit_nextSeq (s : State) (p : Port) (f : Frame) : (s.emit p f).nextSeq = s.nextSeq := rfl
@[simp] theorem State.emit_logs (s : State) (p : Port) (f : Frame) : (s.emit p f).logs = s.logs := rfl
@[simp] theorem State.emit_alerts (s : State) (p : Port) (f : Frame) : (s.emit p f).alerts = s.alerts := rfl
@[simp] theorem State.emit_alertDest (s : State) (p : Port) (f : Frame) : (s.emit p f).alertDest = s.alertDest := rfl
@[simp] theorem State.emit_controller (s : State) (p : Port) (f : Frame) : (s.emit p f).controller = s.controller := rfl
@[simp] theorem State.emit_outcome (s : State) (p : Port) (f : Frame) : (s.emit p f).outcome = s.outcome := rfl
@[simp] theorem State.emit_settings (s : State) (p : Port) (f : Frame) : (s.emit p f).settings = s.settings := rfl
@[simp] theorem State.emit_collectionLimit (s : State) (p : Port) (f : Frame) : (s.emit p f).collectionLimit = s.collectionLimit := rfl
@[simp] theorem State.emit_drainLimit (s : State) (p : Port) (f : Frame) : (s.emit p f).drainLimit = s.drainLimit := rfl
@[simp] theorem State.emit_resetCause (s : State) (p : Port) (f : Frame) : (s.emit p f).resetCause = s.resetCause := rfl
@[simp] theorem State.emit_fresh (s : State) (p : Port) (f : Frame) : (s.emit p f).fresh = s.fresh := rfl
@[simp] theorem State.emit_pending (s : State) (p : Port) (f : Frame) : (s.emit p f).pending = s.pending := rfl

@[simp] theorem State.modBranch_trunk (s : State) (b : BranchId) (f : Branch → Branch) : (s.modBranch b f).trunk = s.trunk := rfl
@[simp] theorem State.modBranch_staged (s : State) (b : BranchId) (f : Branch → Branch) : (s.modBranch b f).staged = s.staged := rfl
@[simp] theorem State.modBranch_active (s : State) (b : BranchId) (f : Branch → Branch) : (s.modBranch b f).active = s.active := rfl
@[simp] theorem State.modBranch_generation (s : State) (b : BranchId) (f : Branch → Branch) : (s.modBranch b f).generation = s.generation := rfl
@[simp] theorem State.modBranch_entries (s : State) (b : BranchId) (f : Branch → Branch) : (s.modBranch b f).entries = s.entries := rfl
@[simp] theorem State.modBranch_notices (s : State) (b : BranchId) (f : Branch → Branch) : (s.modBranch b f).notices = s.notices := rfl
@[simp] theorem State.modBranch_nextSeq (s : State) (b : BranchId) (f : Branch → Branch) : (s.modBranch b f).nextSeq = s.nextSeq := rfl
@[simp] theorem State.modBranch_logs (s : State) (b : BranchId) (f : Branch → Branch) : (s.modBranch b f).logs = s.logs := rfl
@[simp] theorem State.modBranch_alerts (s : State) (b : BranchId) (f : Branch → Branch) : (s.modBranch b f).alerts = s.alerts := rfl
@[simp] theorem State.modBranch_alertDest (s : State) (b : BranchId) (f : Branch → Branch) : (s.modBranch b f).alertDest = s.alertDest := rfl
@[simp] theorem State.modBranch_controller (s : State) (b : BranchId) (f : Branch → Branch) : (s.modBranch b f).controller = s.controller := rfl
@[simp] theorem State.modBranch_outcome (s : State) (b : BranchId) (f : Branch → Branch) : (s.modBranch b f).outcome = s.outcome := rfl
@[simp] theorem State.modBranch_settings (s : State) (b : BranchId) (f : Branch → Branch) : (s.modBranch b f).settings = s.settings := rfl
@[simp] theorem State.modBranch_collectionLimit (s : State) (b : BranchId) (f : Branch → Branch) : (s.modBranch b f).collectionLimit = s.collectionLimit := rfl
@[simp] theorem State.modBranch_drainLimit (s : State) (b : BranchId) (f : Branch → Branch) : (s.modBranch b f).drainLimit = s.drainLimit := rfl
@[simp] theorem State.modBranch_resetCause (s : State) (b : BranchId) (f : Branch → Branch) : (s.modBranch b f).resetCause = s.resetCause := rfl
@[simp] theorem State.modBranch_sent (s : State) (b : BranchId) (f : Branch → Branch) : (s.modBranch b f).sent = s.sent := rfl
@[simp] theorem State.modBranch_fresh (s : State) (b : BranchId) (f : Branch → Branch) : (s.modBranch b f).fresh = s.fresh := rfl
@[simp] theorem State.modBranch_pending (s : State) (b : BranchId) (f : Branch → Branch) : (s.modBranch b f).pending = s.pending := rfl

@[simp] theorem State.pushNotice_trunk (s : State) (o : NoticeSource) (d : Requester) (w : List Word) : (s.pushNotice o d w).trunk = s.trunk := rfl
@[simp] theorem State.pushNotice_branches (s : State) (o : NoticeSource) (d : Requester) (w : List Word) : (s.pushNotice o d w).branches = s.branches := rfl
@[simp] theorem State.pushNotice_staged (s : State) (o : NoticeSource) (d : Requester) (w : List Word) : (s.pushNotice o d w).staged = s.staged := rfl
@[simp] theorem State.pushNotice_active (s : State) (o : NoticeSource) (d : Requester) (w : List Word) : (s.pushNotice o d w).active = s.active := rfl
@[simp] theorem State.pushNotice_generation (s : State) (o : NoticeSource) (d : Requester) (w : List Word) : (s.pushNotice o d w).generation = s.generation := rfl
@[simp] theorem State.pushNotice_entries (s : State) (o : NoticeSource) (d : Requester) (w : List Word) : (s.pushNotice o d w).entries = s.entries := rfl
@[simp] theorem State.pushNotice_logs (s : State) (o : NoticeSource) (d : Requester) (w : List Word) : (s.pushNotice o d w).logs = s.logs := rfl
@[simp] theorem State.pushNotice_alerts (s : State) (o : NoticeSource) (d : Requester) (w : List Word) : (s.pushNotice o d w).alerts = s.alerts := rfl
@[simp] theorem State.pushNotice_alertDest (s : State) (o : NoticeSource) (d : Requester) (w : List Word) : (s.pushNotice o d w).alertDest = s.alertDest := rfl
@[simp] theorem State.pushNotice_controller (s : State) (o : NoticeSource) (d : Requester) (w : List Word) : (s.pushNotice o d w).controller = s.controller := rfl
@[simp] theorem State.pushNotice_outcome (s : State) (o : NoticeSource) (d : Requester) (w : List Word) : (s.pushNotice o d w).outcome = s.outcome := rfl
@[simp] theorem State.pushNotice_settings (s : State) (o : NoticeSource) (d : Requester) (w : List Word) : (s.pushNotice o d w).settings = s.settings := rfl
@[simp] theorem State.pushNotice_collectionLimit (s : State) (o : NoticeSource) (d : Requester) (w : List Word) : (s.pushNotice o d w).collectionLimit = s.collectionLimit := rfl
@[simp] theorem State.pushNotice_drainLimit (s : State) (o : NoticeSource) (d : Requester) (w : List Word) : (s.pushNotice o d w).drainLimit = s.drainLimit := rfl
@[simp] theorem State.pushNotice_resetCause (s : State) (o : NoticeSource) (d : Requester) (w : List Word) : (s.pushNotice o d w).resetCause = s.resetCause := rfl
@[simp] theorem State.pushNotice_sent (s : State) (o : NoticeSource) (d : Requester) (w : List Word) : (s.pushNotice o d w).sent = s.sent := rfl
@[simp] theorem State.pushNotice_fresh (s : State) (o : NoticeSource) (d : Requester) (w : List Word) : (s.pushNotice o d w).fresh = s.fresh := rfl
@[simp] theorem State.pushNotice_pending (s : State) (o : NoticeSource) (d : Requester) (w : List Word) : (s.pushNotice o d w).pending = s.pending := rfl

@[simp] theorem State.putAlert_trunk (s : State) (c : AlertKind) (a : AlertClass) : (s.putAlert c a).trunk = s.trunk := rfl
@[simp] theorem State.putAlert_branches (s : State) (c : AlertKind) (a : AlertClass) : (s.putAlert c a).branches = s.branches := rfl
@[simp] theorem State.putAlert_staged (s : State) (c : AlertKind) (a : AlertClass) : (s.putAlert c a).staged = s.staged := rfl
@[simp] theorem State.putAlert_active (s : State) (c : AlertKind) (a : AlertClass) : (s.putAlert c a).active = s.active := rfl
@[simp] theorem State.putAlert_generation (s : State) (c : AlertKind) (a : AlertClass) : (s.putAlert c a).generation = s.generation := rfl
@[simp] theorem State.putAlert_entries (s : State) (c : AlertKind) (a : AlertClass) : (s.putAlert c a).entries = s.entries := rfl
@[simp] theorem State.putAlert_notices (s : State) (c : AlertKind) (a : AlertClass) : (s.putAlert c a).notices = s.notices := rfl
@[simp] theorem State.putAlert_nextSeq (s : State) (c : AlertKind) (a : AlertClass) : (s.putAlert c a).nextSeq = s.nextSeq := rfl
@[simp] theorem State.putAlert_logs (s : State) (c : AlertKind) (a : AlertClass) : (s.putAlert c a).logs = s.logs := rfl
@[simp] theorem State.putAlert_alertDest (s : State) (c : AlertKind) (a : AlertClass) : (s.putAlert c a).alertDest = s.alertDest := rfl
@[simp] theorem State.putAlert_controller (s : State) (c : AlertKind) (a : AlertClass) : (s.putAlert c a).controller = s.controller := rfl
@[simp] theorem State.putAlert_outcome (s : State) (c : AlertKind) (a : AlertClass) : (s.putAlert c a).outcome = s.outcome := rfl
@[simp] theorem State.putAlert_settings (s : State) (c : AlertKind) (a : AlertClass) : (s.putAlert c a).settings = s.settings := rfl
@[simp] theorem State.putAlert_collectionLimit (s : State) (c : AlertKind) (a : AlertClass) : (s.putAlert c a).collectionLimit = s.collectionLimit := rfl
@[simp] theorem State.putAlert_drainLimit (s : State) (c : AlertKind) (a : AlertClass) : (s.putAlert c a).drainLimit = s.drainLimit := rfl
@[simp] theorem State.putAlert_resetCause (s : State) (c : AlertKind) (a : AlertClass) : (s.putAlert c a).resetCause = s.resetCause := rfl
@[simp] theorem State.putAlert_sent (s : State) (c : AlertKind) (a : AlertClass) : (s.putAlert c a).sent = s.sent := rfl
@[simp] theorem State.putAlert_fresh (s : State) (c : AlertKind) (a : AlertClass) : (s.putAlert c a).fresh = s.fresh := rfl
@[simp] theorem State.putAlert_pending (s : State) (c : AlertKind) (a : AlertClass) : (s.putAlert c a).pending = s.pending := rfl

@[simp] theorem State.setEntry_trunk (s : State) (n : EntryId) (e : Entry) : (s.setEntry n e).trunk = s.trunk := rfl
@[simp] theorem State.setEntry_branches (s : State) (n : EntryId) (e : Entry) : (s.setEntry n e).branches = s.branches := rfl
@[simp] theorem State.setEntry_staged (s : State) (n : EntryId) (e : Entry) : (s.setEntry n e).staged = s.staged := rfl
@[simp] theorem State.setEntry_active (s : State) (n : EntryId) (e : Entry) : (s.setEntry n e).active = s.active := rfl
@[simp] theorem State.setEntry_generation (s : State) (n : EntryId) (e : Entry) : (s.setEntry n e).generation = s.generation := rfl
@[simp] theorem State.setEntry_notices (s : State) (n : EntryId) (e : Entry) : (s.setEntry n e).notices = s.notices := rfl
@[simp] theorem State.setEntry_nextSeq (s : State) (n : EntryId) (e : Entry) : (s.setEntry n e).nextSeq = s.nextSeq := rfl
@[simp] theorem State.setEntry_logs (s : State) (n : EntryId) (e : Entry) : (s.setEntry n e).logs = s.logs := rfl
@[simp] theorem State.setEntry_alerts (s : State) (n : EntryId) (e : Entry) : (s.setEntry n e).alerts = s.alerts := rfl
@[simp] theorem State.setEntry_alertDest (s : State) (n : EntryId) (e : Entry) : (s.setEntry n e).alertDest = s.alertDest := rfl
@[simp] theorem State.setEntry_controller (s : State) (n : EntryId) (e : Entry) : (s.setEntry n e).controller = s.controller := rfl
@[simp] theorem State.setEntry_outcome (s : State) (n : EntryId) (e : Entry) : (s.setEntry n e).outcome = s.outcome := rfl
@[simp] theorem State.setEntry_settings (s : State) (n : EntryId) (e : Entry) : (s.setEntry n e).settings = s.settings := rfl
@[simp] theorem State.setEntry_collectionLimit (s : State) (n : EntryId) (e : Entry) : (s.setEntry n e).collectionLimit = s.collectionLimit := rfl
@[simp] theorem State.setEntry_drainLimit (s : State) (n : EntryId) (e : Entry) : (s.setEntry n e).drainLimit = s.drainLimit := rfl
@[simp] theorem State.setEntry_resetCause (s : State) (n : EntryId) (e : Entry) : (s.setEntry n e).resetCause = s.resetCause := rfl
@[simp] theorem State.setEntry_sent (s : State) (n : EntryId) (e : Entry) : (s.setEntry n e).sent = s.sent := rfl
@[simp] theorem State.setEntry_fresh (s : State) (n : EntryId) (e : Entry) : (s.setEntry n e).fresh = s.fresh := rfl
@[simp] theorem State.setEntry_pending (s : State) (n : EntryId) (e : Entry) : (s.setEntry n e).pending = s.pending := rfl

@[simp] theorem State.mapEntries_trunk (s : State) (f : Entry → Entry) : (s.mapEntries f).trunk = s.trunk := rfl
@[simp] theorem State.mapEntries_branches (s : State) (f : Entry → Entry) : (s.mapEntries f).branches = s.branches := rfl
@[simp] theorem State.mapEntries_staged (s : State) (f : Entry → Entry) : (s.mapEntries f).staged = s.staged := rfl
@[simp] theorem State.mapEntries_active (s : State) (f : Entry → Entry) : (s.mapEntries f).active = s.active := rfl
@[simp] theorem State.mapEntries_generation (s : State) (f : Entry → Entry) : (s.mapEntries f).generation = s.generation := rfl
@[simp] theorem State.mapEntries_notices (s : State) (f : Entry → Entry) : (s.mapEntries f).notices = s.notices := rfl
@[simp] theorem State.mapEntries_nextSeq (s : State) (f : Entry → Entry) : (s.mapEntries f).nextSeq = s.nextSeq := rfl
@[simp] theorem State.mapEntries_logs (s : State) (f : Entry → Entry) : (s.mapEntries f).logs = s.logs := rfl
@[simp] theorem State.mapEntries_alerts (s : State) (f : Entry → Entry) : (s.mapEntries f).alerts = s.alerts := rfl
@[simp] theorem State.mapEntries_alertDest (s : State) (f : Entry → Entry) : (s.mapEntries f).alertDest = s.alertDest := rfl
@[simp] theorem State.mapEntries_controller (s : State) (f : Entry → Entry) : (s.mapEntries f).controller = s.controller := rfl
@[simp] theorem State.mapEntries_outcome (s : State) (f : Entry → Entry) : (s.mapEntries f).outcome = s.outcome := rfl
@[simp] theorem State.mapEntries_settings (s : State) (f : Entry → Entry) : (s.mapEntries f).settings = s.settings := rfl
@[simp] theorem State.mapEntries_collectionLimit (s : State) (f : Entry → Entry) : (s.mapEntries f).collectionLimit = s.collectionLimit := rfl
@[simp] theorem State.mapEntries_drainLimit (s : State) (f : Entry → Entry) : (s.mapEntries f).drainLimit = s.drainLimit := rfl
@[simp] theorem State.mapEntries_resetCause (s : State) (f : Entry → Entry) : (s.mapEntries f).resetCause = s.resetCause := rfl
@[simp] theorem State.mapEntries_sent (s : State) (f : Entry → Entry) : (s.mapEntries f).sent = s.sent := rfl
@[simp] theorem State.mapEntries_fresh (s : State) (f : Entry → Entry) : (s.mapEntries f).fresh = s.fresh := rfl
@[simp] theorem State.mapEntries_pending (s : State) (f : Entry → Entry) : (s.mapEntries f).pending = s.pending := rfl

@[simp] theorem State.mapBranches_trunk (s : State) (f : Branch → Branch) : (s.mapBranches f).trunk = s.trunk := rfl
@[simp] theorem State.mapBranches_staged (s : State) (f : Branch → Branch) : (s.mapBranches f).staged = s.staged := rfl
@[simp] theorem State.mapBranches_active (s : State) (f : Branch → Branch) : (s.mapBranches f).active = s.active := rfl
@[simp] theorem State.mapBranches_generation (s : State) (f : Branch → Branch) : (s.mapBranches f).generation = s.generation := rfl
@[simp] theorem State.mapBranches_entries (s : State) (f : Branch → Branch) : (s.mapBranches f).entries = s.entries := rfl
@[simp] theorem State.mapBranches_notices (s : State) (f : Branch → Branch) : (s.mapBranches f).notices = s.notices := rfl
@[simp] theorem State.mapBranches_nextSeq (s : State) (f : Branch → Branch) : (s.mapBranches f).nextSeq = s.nextSeq := rfl
@[simp] theorem State.mapBranches_logs (s : State) (f : Branch → Branch) : (s.mapBranches f).logs = s.logs := rfl
@[simp] theorem State.mapBranches_alerts (s : State) (f : Branch → Branch) : (s.mapBranches f).alerts = s.alerts := rfl
@[simp] theorem State.mapBranches_alertDest (s : State) (f : Branch → Branch) : (s.mapBranches f).alertDest = s.alertDest := rfl
@[simp] theorem State.mapBranches_controller (s : State) (f : Branch → Branch) : (s.mapBranches f).controller = s.controller := rfl
@[simp] theorem State.mapBranches_outcome (s : State) (f : Branch → Branch) : (s.mapBranches f).outcome = s.outcome := rfl
@[simp] theorem State.mapBranches_settings (s : State) (f : Branch → Branch) : (s.mapBranches f).settings = s.settings := rfl
@[simp] theorem State.mapBranches_collectionLimit (s : State) (f : Branch → Branch) : (s.mapBranches f).collectionLimit = s.collectionLimit := rfl
@[simp] theorem State.mapBranches_drainLimit (s : State) (f : Branch → Branch) : (s.mapBranches f).drainLimit = s.drainLimit := rfl
@[simp] theorem State.mapBranches_resetCause (s : State) (f : Branch → Branch) : (s.mapBranches f).resetCause = s.resetCause := rfl
@[simp] theorem State.mapBranches_sent (s : State) (f : Branch → Branch) : (s.mapBranches f).sent = s.sent := rfl
@[simp] theorem State.mapBranches_fresh (s : State) (f : Branch → Branch) : (s.mapBranches f).fresh = s.fresh := rfl
@[simp] theorem State.mapBranches_pending (s : State) (f : Branch → Branch) : (s.mapBranches f).pending = s.pending := rfl

@[simp] theorem State.swap_trunk (s : State) : s.swap.trunk = s.trunk := rfl
@[simp] theorem State.swap_branches (s : State) : s.swap.branches = s.branches := rfl
@[simp] theorem State.swap_staged (s : State) : s.swap.staged = s.staged := rfl
@[simp] theorem State.swap_entries (s : State) : s.swap.entries = s.entries := rfl
@[simp] theorem State.swap_notices (s : State) : s.swap.notices = s.notices := rfl
@[simp] theorem State.swap_nextSeq (s : State) : s.swap.nextSeq = s.nextSeq := rfl
@[simp] theorem State.swap_logs (s : State) : s.swap.logs = s.logs := rfl
@[simp] theorem State.swap_alerts (s : State) : s.swap.alerts = s.alerts := rfl
@[simp] theorem State.swap_alertDest (s : State) : s.swap.alertDest = s.alertDest := rfl
@[simp] theorem State.swap_controller (s : State) : s.swap.controller = s.controller := rfl
@[simp] theorem State.swap_outcome (s : State) : s.swap.outcome = s.outcome := rfl
@[simp] theorem State.swap_settings (s : State) : s.swap.settings = s.settings := rfl
@[simp] theorem State.swap_collectionLimit (s : State) : s.swap.collectionLimit = s.collectionLimit := rfl
@[simp] theorem State.swap_drainLimit (s : State) : s.swap.drainLimit = s.drainLimit := rfl
@[simp] theorem State.swap_resetCause (s : State) : s.swap.resetCause = s.resetCause := rfl
@[simp] theorem State.swap_sent (s : State) : s.swap.sent = s.sent := rfl
@[simp] theorem State.swap_fresh (s : State) : s.swap.fresh = s.fresh := rfl
@[simp] theorem State.swap_pending (s : State) : s.swap.pending = s.pending := rfl

@[simp] theorem State.quiet_sent (s : State) : s.quiet.sent = [] := rfl

@[simp] theorem State.emit_sent (s : State) (p : Port) (f : Frame) : (s.emit p f).sent = s.sent ++ [(p, f)] := rfl

@[simp] theorem State.modBranch_get (s : State) (b c : BranchId) (f : Branch → Branch) :
    (s.modBranch b f).branches[c] = if b = c then f s.branches[b] else s.branches[c] := by
  simp only [State.modBranch, Fin.getElem_fin, Vector.getElem_set, Fin.ext_iff]

@[simp] theorem State.setEntry_get (s : State) (n m : EntryId) (e : Entry) :
    (s.setEntry n e).entries[m] = if n = m then e else s.entries[m] := by
  simp only [State.setEntry, Fin.getElem_fin, Vector.getElem_set, Fin.ext_iff]

@[simp] theorem State.mapEntries_get (s : State) (f : Entry → Entry) (n : EntryId) :
    (s.mapEntries f).entries[n] = f s.entries[n] := by
  simp [State.mapEntries]

@[simp] theorem State.mapBranches_get (s : State) (f : Branch → Branch) (b : BranchId) :
    (s.mapBranches f).branches[b] = f s.branches[b] := by
  simp [State.mapBranches]

@[simp] theorem State.pushNotice_notices (s : State) (o : NoticeSource) (d : Requester) (w : List Word) :
    (s.pushNotice o d w).notices = s.notices ++ [{ seq := s.nextSeq, source := o, dest := d, payload := w }] := rfl

@[simp] theorem State.pushNotice_nextSeq (s : State) (o : NoticeSource) (d : Requester) (w : List Word) :
    (s.pushNotice o d w).nextSeq = s.nextSeq + 1 := rfl

@[simp] theorem State.swap_active (s : State) : s.swap.active = s.staged := rfl

@[simp] theorem State.swap_generation (s : State) : s.swap.generation = s.generation + 1 := rfl

@[simp] theorem Alerts.get_put_self (a : Alerts) (c : AlertKind) (r : AlertClass) : (a.put c r).get c = r := by
  cases c <;> rfl

theorem Alerts.get_put_of_ne (a : Alerts) (c d : AlertKind) (r : AlertClass) (h : c ≠ d) : (a.put c r).get d = a.get d := by
  cases c <;> cases d <;> first | rfl | exact absurd rfl h

@[simp] theorem State.putAlert_alerts (s : State) (c : AlertKind) (a : AlertClass) : (s.putAlert c a).alerts = s.alerts.put c a := rfl

end Sys2Proof.Machine
end

