-- ==== Sys2Proof/Laws/Ops.lean ====
section
/-! SUPPORT. What each shared operation leaves alone, and the lemmas that say what it does; proofs cite these instead of unfolding the
operation. -/

namespace Sys2Proof.Machine

/-- What `State.setLink` leaves alone. -/
@[simp] theorem State.setLink_frame (s : State) (p : Port) (l : LinkPort) :
    (s.setLink p l).staged = s.staged ∧ (s.setLink p l).active = s.active ∧ (s.setLink p l).generation = s.generation ∧
    (s.setLink p l).entries = s.entries ∧ (s.setLink p l).notices = s.notices ∧ (s.setLink p l).nextSeq = s.nextSeq ∧
    (s.setLink p l).logs = s.logs ∧ (s.setLink p l).alerts = s.alerts ∧ (s.setLink p l).alertDest = s.alertDest ∧
    (s.setLink p l).controller = s.controller ∧ (s.setLink p l).outcome = s.outcome ∧ (s.setLink p l).settings = s.settings ∧
    (s.setLink p l).collectionLimit = s.collectionLimit ∧ (s.setLink p l).drainLimit = s.drainLimit ∧
    (s.setLink p l).resetCause = s.resetCause ∧ (s.setLink p l).sent = s.sent ∧ (s.setLink p l).fresh = s.fresh ∧
    (s.setLink p l).pending = s.pending := by cases p <;> simp [State.setLink]

/-- What `State.answer` leaves alone. -/
@[simp] theorem State.answer_frame (s : State) (r : Requester) (t : Tag) (a : AnswerBody) :
    (s.answer r t a).branches = s.branches ∧ (s.answer r t a).staged = s.staged ∧ (s.answer r t a).active = s.active ∧
    (s.answer r t a).generation = s.generation ∧ (s.answer r t a).entries = s.entries ∧ (s.answer r t a).notices = s.notices ∧
    (s.answer r t a).nextSeq = s.nextSeq ∧ (s.answer r t a).logs = s.logs ∧ (s.answer r t a).alerts = s.alerts ∧
    (s.answer r t a).alertDest = s.alertDest ∧ (s.answer r t a).controller = s.controller ∧
    (s.answer r t a).outcome = s.outcome ∧ (s.answer r t a).settings = s.settings ∧
    (s.answer r t a).collectionLimit = s.collectionLimit ∧ (s.answer r t a).drainLimit = s.drainLimit ∧
    (s.answer r t a).resetCause = s.resetCause ∧ (s.answer r t a).sent = s.sent ∧ (s.answer r t a).fresh = s.fresh ∧
    (s.answer r t a).pending = s.pending := by unfold State.answer; split <;> simp

/-- What `State.sendData` leaves alone. -/
@[simp] theorem State.sendData_frame (s : State) (p : Port) (ws : List Word) :
    (s.sendData p ws).staged = s.staged ∧ (s.sendData p ws).active = s.active ∧ (s.sendData p ws).generation = s.generation ∧
    (s.sendData p ws).entries = s.entries ∧ (s.sendData p ws).notices = s.notices ∧ (s.sendData p ws).nextSeq = s.nextSeq ∧
    (s.sendData p ws).logs = s.logs ∧ (s.sendData p ws).alerts = s.alerts ∧ (s.sendData p ws).alertDest = s.alertDest ∧
    (s.sendData p ws).controller = s.controller ∧ (s.sendData p ws).outcome = s.outcome ∧
    (s.sendData p ws).settings = s.settings ∧ (s.sendData p ws).collectionLimit = s.collectionLimit ∧
    (s.sendData p ws).drainLimit = s.drainLimit ∧ (s.sendData p ws).resetCause = s.resetCause ∧
    (s.sendData p ws).fresh = s.fresh ∧ (s.sendData p ws).pending = s.pending := by simp [State.sendData]

/-- What `State.sendWaiting` leaves alone. -/
@[simp] theorem State.sendWaiting_frame (s : State) (b : BranchId) (q : List BranchPacket) :
    (s.sendWaiting b q).trunk = s.trunk ∧ (s.sendWaiting b q).staged = s.staged ∧ (s.sendWaiting b q).active = s.active ∧
    (s.sendWaiting b q).generation = s.generation ∧ (s.sendWaiting b q).entries = s.entries ∧
    (s.sendWaiting b q).notices = s.notices ∧ (s.sendWaiting b q).nextSeq = s.nextSeq ∧ (s.sendWaiting b q).logs = s.logs ∧
    (s.sendWaiting b q).alerts = s.alerts ∧ (s.sendWaiting b q).alertDest = s.alertDest ∧
    (s.sendWaiting b q).controller = s.controller ∧ (s.sendWaiting b q).outcome = s.outcome ∧
    (s.sendWaiting b q).settings = s.settings ∧ (s.sendWaiting b q).collectionLimit = s.collectionLimit ∧
    (s.sendWaiting b q).drainLimit = s.drainLimit ∧ (s.sendWaiting b q).resetCause = s.resetCause ∧
    (s.sendWaiting b q).fresh = s.fresh ∧ (s.sendWaiting b q).pending = s.pending := by
  induction q generalizing s with
  | nil => simp [State.sendWaiting]
  | cons p rest ih =>
    unfold State.sendWaiting
    split
    · simpa [State.sendData, State.setLink] using ih (s.sendData (.branch b) p.toWords)
    · simp

/-- What `State.handToPort` leaves alone. -/
@[simp] theorem State.handToPort_frame (s : State) (b : BranchId) (p : BranchPacket) :
    (s.handToPort b p).trunk = s.trunk ∧ (s.handToPort b p).staged = s.staged ∧ (s.handToPort b p).active = s.active ∧
    (s.handToPort b p).generation = s.generation ∧ (s.handToPort b p).entries = s.entries ∧
    (s.handToPort b p).notices = s.notices ∧ (s.handToPort b p).nextSeq = s.nextSeq ∧ (s.handToPort b p).logs = s.logs ∧
    (s.handToPort b p).alerts = s.alerts ∧ (s.handToPort b p).alertDest = s.alertDest ∧
    (s.handToPort b p).controller = s.controller ∧ (s.handToPort b p).outcome = s.outcome ∧
    (s.handToPort b p).settings = s.settings ∧ (s.handToPort b p).collectionLimit = s.collectionLimit ∧
    (s.handToPort b p).drainLimit = s.drainLimit ∧ (s.handToPort b p).resetCause = s.resetCause ∧
    (s.handToPort b p).fresh = s.fresh ∧ (s.handToPort b p).pending = s.pending := by simp [State.handToPort]

/-- What `State.pushAlert` leaves alone. -/
@[simp] theorem State.pushAlert_frame (s : State) (c : AlertKind) (d : Word) :
    (s.pushAlert c d).trunk = s.trunk ∧ (s.pushAlert c d).branches = s.branches ∧ (s.pushAlert c d).staged = s.staged ∧
    (s.pushAlert c d).active = s.active ∧ (s.pushAlert c d).generation = s.generation ∧ (s.pushAlert c d).entries = s.entries ∧
    (s.pushAlert c d).logs = s.logs ∧ (s.pushAlert c d).alerts = s.alerts ∧ (s.pushAlert c d).alertDest = s.alertDest ∧
    (s.pushAlert c d).controller = s.controller ∧ (s.pushAlert c d).outcome = s.outcome ∧
    (s.pushAlert c d).settings = s.settings ∧ (s.pushAlert c d).collectionLimit = s.collectionLimit ∧
    (s.pushAlert c d).drainLimit = s.drainLimit ∧ (s.pushAlert c d).resetCause = s.resetCause ∧
    (s.pushAlert c d).sent = s.sent ∧ (s.pushAlert c d).fresh = s.fresh ∧ (s.pushAlert c d).pending = s.pending := by simp [State.pushAlert]

/-- What `State.raise` leaves alone. -/
@[simp] theorem State.raise_frame (s : State) (c : AlertKind) (d : Word) :
    (s.raise c d).trunk = s.trunk ∧ (s.raise c d).branches = s.branches ∧ (s.raise c d).staged = s.staged ∧
    (s.raise c d).active = s.active ∧ (s.raise c d).generation = s.generation ∧ (s.raise c d).entries = s.entries ∧
    (s.raise c d).logs = s.logs ∧ (s.raise c d).alertDest = s.alertDest ∧ (s.raise c d).controller = s.controller ∧
    (s.raise c d).outcome = s.outcome ∧ (s.raise c d).settings = s.settings ∧
    (s.raise c d).collectionLimit = s.collectionLimit ∧ (s.raise c d).drainLimit = s.drainLimit ∧
    (s.raise c d).resetCause = s.resetCause ∧ (s.raise c d).sent = s.sent ∧ (s.raise c d).fresh = s.fresh ∧
    (s.raise c d).pending = s.pending := by
  simp only [State.raise]
  split
  · simp
  · split <;> simp

/-- What `State.handFault` leaves alone. -/
@[simp] theorem State.handFault_frame (s : State) (f : FaultEntry) :
    (s.handFault f).trunk = s.trunk ∧ (s.handFault f).branches = s.branches ∧ (s.handFault f).staged = s.staged ∧
    (s.handFault f).active = s.active ∧ (s.handFault f).generation = s.generation ∧ (s.handFault f).entries = s.entries ∧
    (s.handFault f).alertDest = s.alertDest ∧ (s.handFault f).controller = s.controller ∧ (s.handFault f).outcome = s.outcome ∧
    (s.handFault f).settings = s.settings ∧ (s.handFault f).collectionLimit = s.collectionLimit ∧
    (s.handFault f).drainLimit = s.drainLimit ∧ (s.handFault f).resetCause = s.resetCause ∧ (s.handFault f).sent = s.sent ∧
    (s.handFault f).fresh = s.fresh ∧ (s.handFault f).pending = s.pending := by unfold State.handFault; cases f.causes.ownClass <;> (simp only []; split <;> simp)

/-- What `State.syncLevel` leaves alone. -/
@[simp] theorem State.syncLevel_frame (s : State) (b : BranchId) :
    (s.syncLevel b).trunk = s.trunk ∧ (s.syncLevel b).staged = s.staged ∧ (s.syncLevel b).active = s.active ∧
    (s.syncLevel b).generation = s.generation ∧ (s.syncLevel b).entries = s.entries ∧ (s.syncLevel b).logs = s.logs ∧
    (s.syncLevel b).alertDest = s.alertDest ∧ (s.syncLevel b).controller = s.controller ∧ (s.syncLevel b).outcome = s.outcome ∧
    (s.syncLevel b).settings = s.settings ∧ (s.syncLevel b).collectionLimit = s.collectionLimit ∧
    (s.syncLevel b).drainLimit = s.drainLimit ∧ (s.syncLevel b).resetCause = s.resetCause ∧ (s.syncLevel b).sent = s.sent ∧
    (s.syncLevel b).fresh = s.fresh ∧ (s.syncLevel b).pending = s.pending := by unfold State.syncLevel; simp only []; split <;> simp

/-- What `State.setQueue` leaves alone. -/
@[simp] theorem State.setQueue_frame (s : State) (b : BranchId) (q : List Item) :
    (s.setQueue b q).trunk = s.trunk ∧ (s.setQueue b q).staged = s.staged ∧ (s.setQueue b q).active = s.active ∧
    (s.setQueue b q).generation = s.generation ∧ (s.setQueue b q).entries = s.entries ∧ (s.setQueue b q).logs = s.logs ∧
    (s.setQueue b q).alertDest = s.alertDest ∧ (s.setQueue b q).controller = s.controller ∧
    (s.setQueue b q).outcome = s.outcome ∧ (s.setQueue b q).settings = s.settings ∧
    (s.setQueue b q).collectionLimit = s.collectionLimit ∧ (s.setQueue b q).drainLimit = s.drainLimit ∧
    (s.setQueue b q).resetCause = s.resetCause ∧ (s.setQueue b q).sent = s.sent ∧ (s.setQueue b q).fresh = s.fresh ∧
    (s.setQueue b q).pending = s.pending := by simp [State.setQueue]

/-- What `State.appendItem` leaves alone. -/
@[simp] theorem State.appendItem_frame (s : State) (b : BranchId) (it : Item) :
    (s.appendItem b it).trunk = s.trunk ∧ (s.appendItem b it).staged = s.staged ∧ (s.appendItem b it).active = s.active ∧
    (s.appendItem b it).generation = s.generation ∧ (s.appendItem b it).entries = s.entries ∧
    (s.appendItem b it).logs = s.logs ∧ (s.appendItem b it).alertDest = s.alertDest ∧
    (s.appendItem b it).controller = s.controller ∧ (s.appendItem b it).outcome = s.outcome ∧
    (s.appendItem b it).settings = s.settings ∧ (s.appendItem b it).collectionLimit = s.collectionLimit ∧
    (s.appendItem b it).drainLimit = s.drainLimit ∧ (s.appendItem b it).resetCause = s.resetCause ∧
    (s.appendItem b it).sent = s.sent ∧ (s.appendItem b it).fresh = s.fresh ∧ (s.appendItem b it).pending = s.pending := by simp [State.appendItem]

/-- What `State.reportDrop` leaves alone. -/
@[simp] theorem State.reportDrop_frame (s : State) (b : BranchId) (p : PostedItem) (r : DropReason) :
    (s.reportDrop b p r).trunk = s.trunk ∧ (s.reportDrop b p r).branches = s.branches ∧
    (s.reportDrop b p r).staged = s.staged ∧ (s.reportDrop b p r).active = s.active ∧
    (s.reportDrop b p r).generation = s.generation ∧ (s.reportDrop b p r).entries = s.entries ∧
    (s.reportDrop b p r).alertDest = s.alertDest ∧ (s.reportDrop b p r).controller = s.controller ∧
    (s.reportDrop b p r).outcome = s.outcome ∧ (s.reportDrop b p r).settings = s.settings ∧
    (s.reportDrop b p r).collectionLimit = s.collectionLimit ∧ (s.reportDrop b p r).drainLimit = s.drainLimit ∧
    (s.reportDrop b p r).resetCause = s.resetCause ∧ (s.reportDrop b p r).sent = s.sent ∧
    (s.reportDrop b p r).fresh = s.fresh ∧ (s.reportDrop b p r).pending = s.pending := by simp [State.reportDrop]

/-- What `State.reportLost` leaves alone. -/
@[simp] theorem State.reportLost_frame (s : State) (b : BranchId) (q : List Item) :
    (s.reportLost b q).trunk = s.trunk ∧ (s.reportLost b q).branches = s.branches ∧ (s.reportLost b q).staged = s.staged ∧
    (s.reportLost b q).active = s.active ∧ (s.reportLost b q).generation = s.generation ∧
    (s.reportLost b q).entries = s.entries ∧ (s.reportLost b q).alertDest = s.alertDest ∧
    (s.reportLost b q).controller = s.controller ∧ (s.reportLost b q).outcome = s.outcome ∧
    (s.reportLost b q).settings = s.settings ∧ (s.reportLost b q).collectionLimit = s.collectionLimit ∧
    (s.reportLost b q).drainLimit = s.drainLimit ∧ (s.reportLost b q).resetCause = s.resetCause ∧
    (s.reportLost b q).sent = s.sent ∧ (s.reportLost b q).fresh = s.fresh ∧ (s.reportLost b q).pending = s.pending := by
  induction q generalizing s with
  | nil => simp [State.reportLost]
  | cons it rest ih =>
    cases it with
    | posted p => simpa [State.reportLost] using ih (s.reportDrop b p .branchLost)
    | ref n => simpa [State.reportLost] using ih s

/-- What `State.complete` leaves alone. -/
@[simp] theorem State.complete_frame (s : State) (n : EntryId) (l : LiveEntry) (st : ResultStatus) (ws : List Word) :
    (s.complete n l st ws).trunk = s.trunk ∧ (s.complete n l st ws).branches = s.branches ∧
    (s.complete n l st ws).staged = s.staged ∧ (s.complete n l st ws).active = s.active ∧
    (s.complete n l st ws).generation = s.generation ∧ (s.complete n l st ws).notices = s.notices ∧
    (s.complete n l st ws).nextSeq = s.nextSeq ∧ (s.complete n l st ws).logs = s.logs ∧
    (s.complete n l st ws).alerts = s.alerts ∧ (s.complete n l st ws).alertDest = s.alertDest ∧
    (s.complete n l st ws).controller = s.controller ∧ (s.complete n l st ws).outcome = s.outcome ∧
    (s.complete n l st ws).settings = s.settings ∧ (s.complete n l st ws).collectionLimit = s.collectionLimit ∧
    (s.complete n l st ws).drainLimit = s.drainLimit ∧ (s.complete n l st ws).resetCause = s.resetCause ∧
    (s.complete n l st ws).sent = s.sent ∧ (s.complete n l st ws).fresh = s.fresh ∧ (s.complete n l st ws).pending = s.pending := by simp [State.complete]

/-- What `State.endCommit` leaves alone. -/
@[simp] theorem State.endCommit_frame (s : State) (o : CommitOutcome) :
    (s.endCommit o).trunk = s.trunk ∧ (s.endCommit o).branches = s.branches ∧ (s.endCommit o).staged = s.staged ∧
    (s.endCommit o).active = s.active ∧ (s.endCommit o).generation = s.generation ∧ (s.endCommit o).entries = s.entries ∧
    (s.endCommit o).logs = s.logs ∧ (s.endCommit o).alertDest = s.alertDest ∧ (s.endCommit o).settings = s.settings ∧
    (s.endCommit o).collectionLimit = s.collectionLimit ∧ (s.endCommit o).drainLimit = s.drainLimit ∧
    (s.endCommit o).resetCause = s.resetCause ∧ (s.endCommit o).sent = s.sent ∧ (s.endCommit o).fresh = s.fresh ∧
    (s.endCommit o).pending = s.pending := by simp [State.endCommit]

/-- What `State.commitSwap` leaves alone. -/
@[simp] theorem State.commitSwap_frame (s : State) :
    s.commitSwap.trunk = s.trunk ∧ s.commitSwap.branches = s.branches ∧ s.commitSwap.staged = s.staged ∧
    s.commitSwap.entries = s.entries ∧ s.commitSwap.logs = s.logs ∧ s.commitSwap.alertDest = s.alertDest ∧
    s.commitSwap.settings = s.settings ∧ s.commitSwap.collectionLimit = s.collectionLimit ∧
    s.commitSwap.drainLimit = s.drainLimit ∧ s.commitSwap.resetCause = s.resetCause ∧ s.commitSwap.sent = s.sent ∧
    s.commitSwap.fresh = s.fresh ∧ s.commitSwap.pending = s.pending := by simp [State.commitSwap]

/-- What `State.drainEnd` leaves alone. -/
@[simp] theorem State.drainEnd_frame (s : State) :
    s.drainEnd.trunk = s.trunk ∧ s.drainEnd.branches = s.branches ∧ s.drainEnd.staged = s.staged ∧
    s.drainEnd.entries = s.entries ∧ s.drainEnd.logs = s.logs ∧ s.drainEnd.alertDest = s.alertDest ∧
    s.drainEnd.settings = s.settings ∧ s.drainEnd.collectionLimit = s.collectionLimit ∧ s.drainEnd.drainLimit = s.drainLimit ∧
    s.drainEnd.resetCause = s.resetCause ∧ s.drainEnd.sent = s.sent ∧ s.drainEnd.fresh = s.fresh ∧
    s.drainEnd.pending = s.pending := by unfold State.drainEnd; split <;> simp

/-- What `State.branchLoss` leaves alone. -/
@[simp] theorem State.branchLoss_frame (s : State) (b : BranchId) :
    (s.branchLoss b).trunk = s.trunk ∧ (s.branchLoss b).staged = s.staged ∧ (s.branchLoss b).alertDest = s.alertDest ∧
    (s.branchLoss b).settings = s.settings ∧ (s.branchLoss b).collectionLimit = s.collectionLimit ∧
    (s.branchLoss b).drainLimit = s.drainLimit ∧ (s.branchLoss b).resetCause = s.resetCause ∧ (s.branchLoss b).sent = s.sent ∧
    (s.branchLoss b).fresh = s.fresh ∧ (s.branchLoss b).pending = s.pending := by simp [State.branchLoss]

/-- What `State.trunkLoss` leaves alone. -/
@[simp] theorem State.trunkLoss_frame (s : State) :
    s.trunkLoss.trunk = s.trunk ∧ s.trunkLoss.staged = s.staged ∧ s.trunkLoss.logs = s.logs ∧
    s.trunkLoss.alertDest = s.alertDest ∧ s.trunkLoss.settings = s.settings ∧ s.trunkLoss.collectionLimit = s.collectionLimit ∧
    s.trunkLoss.drainLimit = s.drainLimit ∧ s.trunkLoss.resetCause = s.resetCause ∧ s.trunkLoss.sent = s.sent ∧
    s.trunkLoss.fresh = s.fresh ∧ s.trunkLoss.pending = s.pending := by simp [State.trunkLoss]

/-- What `State.linkLost` leaves alone. -/
@[simp] theorem State.linkLost_frame (s : State) (p : Port) :
    (s.linkLost p).staged = s.staged ∧ (s.linkLost p).alertDest = s.alertDest ∧ (s.linkLost p).settings = s.settings ∧
    (s.linkLost p).collectionLimit = s.collectionLimit ∧ (s.linkLost p).drainLimit = s.drainLimit ∧
    (s.linkLost p).resetCause = s.resetCause ∧ (s.linkLost p).sent = s.sent ∧ (s.linkLost p).fresh = s.fresh ∧
    (s.linkLost p).pending = s.pending := by cases p <;> simp only [State.linkLost] <;> (try split) <;> simp

/-- What `State.comeUp` leaves alone. -/
@[simp] theorem State.comeUp_frame (s : State) (p : Port) :
    (s.comeUp p).staged = s.staged ∧ (s.comeUp p).active = s.active ∧ (s.comeUp p).generation = s.generation ∧
    (s.comeUp p).entries = s.entries ∧ (s.comeUp p).logs = s.logs ∧ (s.comeUp p).alertDest = s.alertDest ∧
    (s.comeUp p).controller = s.controller ∧ (s.comeUp p).outcome = s.outcome ∧ (s.comeUp p).settings = s.settings ∧
    (s.comeUp p).collectionLimit = s.collectionLimit ∧ (s.comeUp p).drainLimit = s.drainLimit ∧
    (s.comeUp p).resetCause = s.resetCause ∧ (s.comeUp p).sent = s.sent ∧ (s.comeUp p).fresh = s.fresh ∧
    (s.comeUp p).pending = s.pending := by cases p <;> simp only [State.comeUp] <;> (try split) <;> simp

end Sys2Proof.Machine
end

