-- ==== Sys2Proof/Laws/Take.lean ====
section
/-! SUPPORT. What taking a packet does: an offered packet is served from the state that the claims call u, and one that is not offered
changes nothing. And the searches: the entry of a pair, the matching window, the format causes, in the claims' terms. -/

namespace Sys2Proof.Machine

theorem letsPass_iff {q p : TrunkPacket} : letsPass q p = true ↔ LetsPass q p := by
  have hf : ∀ x : TrunkPacket, forManagement x = true ↔ ∃ m, x = .managementRead m ∨ x = .managementWrite m := by
    intro x
    cases x <;> simp [forManagement]
  have hr : isPartReset q = true ↔ ∃ m, q = .managementWrite m ∧ m.object = some (12, 0) ∧ actionOf m.words = 1 := by
    cases q with
    | managementWrite m =>
      simp only [isPartReset, Bool.and_eq_true, decide_eq_true_eq, TrunkPacket.managementWrite.injEq]
      exact ⟨fun h => ⟨m, rfl, h⟩, fun ⟨_, hm, h⟩ => hm ▸ h⟩
    | _ => simp [isPartReset]
  rw [letsPass, Bool.or_eq_true, hr, LetsPass, ← hf, ← hf]
  cases forManagement q <;> cases forManagement p <;> simp

/-- A list whose front has no p is passed over up to its first p. -/
theorem takeWhile_ne_append {p : TrunkPacket} {before rest : List TrunkPacket} (h : ∀ q ∈ before, q ≠ p) :
    (before ++ p :: rest).takeWhile (fun q => q ≠ p) = before := by
  rw [List.takeWhile_append_of_pos (by simpa using h)]
  simp

theorem State.takeRequest_of_offers {s u : State} {p : TrunkPacket} (f : State → State) (h : s.Offers p u) :
    s.quiet.takeRequest p f = f u := by
  obtain ⟨hup, ⟨before, rest, hd, hb, rfl⟩ | ⟨hb, hn, rfl⟩⟩ := h
  · have hw := takeWhile_ne_append (rest := rest) (fun q hq => (hb q hq).1)
    have ha : before.all (fun q => letsPass q p) = true :=
      List.all_eq_true.2 (fun q hq => letsPass_iff.2 (hb q hq).2)
    have he : (before ++ p :: rest).erase p = before ++ rest := by
      rw [List.erase_append_right _ (fun hm => (hb p hm).1 rfl), List.erase_cons_head]
    simp only [State.takeRequest, State.quiet, hup, hd, hw, ha, he, List.mem_append, List.mem_cons, true_or, or_true, Bool.and_self,
      if_true]
  · have hm : p ∉ s.trunk.delivered := fun hm => (hb p hm).1 rfl
    have hw : s.trunk.delivered.takeWhile (fun q => q ≠ p) = s.trunk.delivered := by
      rw [List.takeWhile_eq_self_iff]
      simpa using fun q hq => (hb q hq).1
    have ha : s.trunk.delivered.all (fun q => letsPass q p) = true :=
      List.all_eq_true.2 (fun q hq => letsPass_iff.2 (hb q hq).2)
    simp only [State.takeRequest, State.quiet, hup, hw, ha, hm, Config.trunkPlaces, hn, Bool.and_self, if_true, if_false]

theorem State.takeRequest_of_not_offers {s : State} {p : TrunkPacket} (f : State → State) (h : ∀ u, ¬ s.Offers p u) :
    s.quiet.takeRequest p f = { s with sent := [] } := by
  unfold State.takeRequest
  split
  · rename_i hc
    simp only [State.quiet, Bool.and_eq_true, List.all_eq_true, letsPass_iff] at hc
    obtain ⟨hup, ha⟩ := hc
    split
    · rename_i hm
      obtain ⟨before, rest, hd, hp⟩ := List.eq_append_cons_of_mem hm
      have hd : s.trunk.delivered = before ++ p :: rest := hd
      have hb : ∀ q ∈ before, q ≠ p := fun q hq e => hp (e ▸ hq)
      exact absurd ⟨hup, Or.inl ⟨before, rest, hd, fun q hq => ⟨hb q hq, ha q (by rw [hd, takeWhile_ne_append hb]; exact hq)⟩, rfl⟩⟩ (h _)
    · rename_i hm
      have hne : ∀ q ∈ s.trunk.delivered, q ≠ p := fun q hq e => hm (e ▸ hq)
      have hw : s.trunk.delivered.takeWhile (fun q => q ≠ p) = s.trunk.delivered := by
        rw [List.takeWhile_eq_self_iff]
        simpa using hne
      refine if_neg fun hn => h _ ⟨hup, Or.inr ⟨fun q hq => ⟨hne q hq, ha q (hw.symm ▸ hq)⟩, hn, rfl⟩⟩
  · rfl

theorem State.takeTarget_of_offers {s u : State} {b : BranchId} {p : TargetPacket} (f : State → State)
    (h : s.OffersTarget b p u) : s.quiet.takeTarget b p f = f u := by
  obtain ⟨hup, hr, ⟨rest, hd, rfl⟩ | ⟨hd, hn, rfl⟩⟩ := h
  · simp at hup hr hd
    simp [State.takeTarget, State.quiet, Branch.carries, hup, hr, hd, State.modBranch]
  · simp at hup hr hd hn
    simp [State.takeTarget, State.quiet, Branch.carries, hup, hr, hd, Config.noticePlaces, hn]

theorem State.takeTarget_of_not_offers {s : State} {b : BranchId} {p : TargetPacket} (f : State → State)
    (h : ∀ u, ¬ s.OffersTarget b p u) : s.quiet.takeTarget b p f = { s with sent := [] } := by
  unfold State.takeTarget
  by_cases hc : s.branches[b].link.up = true ∧ s.branches[b].reset = false
  · refine (if_pos (by simpa [Branch.carries, State.quiet] using hc)).trans ?_
    cases hd : s.branches[b].delivered with
    | cons q rest =>
      have hq : q ≠ p := fun e => h _ ⟨hc.1, hc.2, Or.inl ⟨rest, e ▸ hd, rfl⟩⟩
      simp at hd
      simp [State.quiet, hd, hq]
    | nil =>
      have hn : ¬ s.branches[b].noticePlaces < 16 := fun e => h _ ⟨hc.1, hc.2, Or.inr ⟨hd, e, rfl⟩⟩
      have hd' : s.quiet.branches[b].delivered = [] := hd
      simp only [hd']
      exact if_neg hn
  · exact if_neg (by simpa [Branch.carries, State.quiet] using hc)

/-- The trunk is UP in the state that an offered packet is served from, and the queue of commands and the free values' counter are
those of the state it was offered in. -/
theorem State.Offers.up {s u : State} {p : TrunkPacket} (h : s.Offers p u) : u.trunk.link.up = true := by
  obtain ⟨hup, ⟨before, rest, hd, hb, rfl⟩ | ⟨hb, hn, rfl⟩⟩ := h <;> exact hup

theorem State.findEntry_eq_none {s : State} {r : Requester} {t : Tag} :
    s.findEntry r t = none ↔ ∀ n : EntryId, s.entries[n].holds r t = false := by
  simp [State.findEntry, List.find?_eq_none]

/-- R27: where the pairs are distinct, the search finds the entry that holds the pair. -/
theorem State.findEntry_eq_some {s : State} {r : Requester} {t : Tag} {n : EntryId} {l : LiveEntry} (hp : s.PairLaw)
    (hn : s.entries[n] = .live l) (hr : l.req.requester = r) (ht : l.req.tag = t) : s.findEntry r t = some n := by
  have hh : s.entries[n].holds r t = true := by simp [hn, Entry.holds, hr, ht]
  cases hf : s.findEntry r t with
  | none => exact absurd hh (by rw [State.findEntry_eq_none.1 hf n]; decide)
  | some m =>
    have hm := List.find?_some hf
    cases hl : s.entries[m] with
    | free => simp only [hl, Entry.holds, Bool.false_eq_true] at hm
    | live x =>
      simp only [hl, Entry.holds, Bool.and_eq_true, beq_iff_eq] at hm
      rw [hp m n (by rw [hl]; rfl) (by rw [hl, hn]; simp [Entry.pair, hm.1, hm.2, hr, ht])]

/-- R4: the search finds the matching window. -/
theorem State.matchWindow_eq_some {s : State} {a : Address} {i : WindowId} :
    s.matchWindow (pageOf a) = some i ↔ s.Matches a i := by
  simp only [State.matchWindow, State.Matches, List.find?_eq_some_iff_getElem]
  constructor
  · rintro ⟨h, k, hk, he, hj⟩
    simp only [List.getElem_finRange] at he
    subst he
    refine ⟨h, fun j hj' => ?_⟩
    have := hj j.val (by simpa [Fin.lt_def] using hj')
    simpa using this
  · rintro ⟨h, hj⟩
    refine ⟨h, i.val, by simp, by simp, fun j hj' => ?_⟩
    have := hj ⟨j, by omega⟩ (by simpa [Fin.lt_def] using hj')
    simpa using this

theorem State.matchWindow_eq_none {s : State} {p : Page} :
    s.matchWindow p = none ↔ ∀ i : WindowId, s.active[i].covers p = false := by
  simp [State.matchWindow, List.find?_eq_none]

/-- R9: a well-formed request has no format cause. -/
theorem formatCauses_of_wellFormedAt {k : MemKind} {q : MemoryRequest} {a : Address} (h : WellFormedAt k q a) :
    (formatCauses k q).any = false := by
  obtain ⟨ha, h1, h2, h3, h4, h5⟩ := h
  have hm : maxLength k = if k = .np .xch then 2 else 32 := by cases k with | np k => cases k <;> rfl | wrp => rfl
  have he : expectedData k q = if k = .np .rd then 0 else q.length.toNat := by cases k with | np k => cases k <;> rfl | wrp => rfl
  simp only [formatCauses, ha, FaultCauses.any, lengthInRange, hm, he, crossesPage, h3, h4]
  have : ¬ 4096 < a.toNat % 4096 + 4 * q.length.toNat := by omega
  simp [h2, this]
  omega

end Sys2Proof.Machine
end

