-- ==== Sys2Proof/Laws/Write.lean ====
section
/-! SUPPORT. What an MW of a writable class does once it is offered, has the record length and comes from a manager: its value group
decides between the refusal and the effect. -/

namespace Sys2Proof.Machine

@[simp] theorem ObjectClass.ofCode_code (c : ObjectClass) : ObjectClass.ofCode c.code = some c := by cases c <;> rfl

theorem indexIn_eq {n : Nat} {i : BitVec 8} {k : Fin n} (h : i.toNat = k.val) : indexIn n i = some k := by
  have hk := k.isLt
  unfold indexIn
  rw [dif_pos (by rw [h]; exact hk)]
  simp [h]

theorem State.takeWrite_of_writes {s u : State} {m : ObjectWrite} {c : ObjectClass} {n : Nat} {o : Object}
    (h : s.Writes m c n u) (hn : recordLength c = n) (ho : Object.find c.code m.index = some o) (hr : o.readOnly = false) :
    s.takeWrite (objectRequest m c)
      = if u.badValue o m.words || u.objectBusy o m.words then
          u.refuseManagement kindMw (objectRequest m c) (.value (u.badValue o m.words) (u.objectBusy o m.words))
            (if u.badValue o m.words then .badValue else .objectBusy)
        else (u.answerOk m).applyWrite o m.words := by
  obtain ⟨hoff, hl, hw, hm⟩ := h
  simp at hm
  have hlen : lengthFault true (objectRequest m c) = false := by
    simp [lengthFault, objectRequest, hl, hn, hw]
  rw [State.takeWrite, State.takeRequest_of_offers _ hoff, State.serveWrite, hlen]
  simp [objectRequest, ho, hm, hr, State.answerOk]
  rfl

/-- A word with a field set: the field's bits are the value's, the others are the word's. -/
theorem getLsbD_setField {n : Nat} (w : Word) (lo : Nat) (v : BitVec n) (i : Nat) (hi : i < 32) :
    ((w &&& ~~~(place (BitVec.allOnes n) lo)) ||| place v lo).getLsbD i
      = if lo ≤ i ∧ i < lo + n then v.getLsbD (i - lo) else w.getLsbD i := by
  simp only [place, BitVec.getLsbD_or, BitVec.getLsbD_and, BitVec.getLsbD_not, BitVec.getLsbD_shiftLeft,
    BitVec.getLsbD_setWidth, BitVec.getLsbD_allOnes, hi]
  by_cases h1 : lo ≤ i
  · by_cases h2 : i < lo + n
    · have h3 : i - lo < n := by omega
      have h4 : i - lo < 32 := by omega
      simp [h1, h2, h3, h4, Nat.not_lt.2 h1]
    · have h3 : ¬ i - lo < n := by omega
      simp [h1, h2, h3, BitVec.getLsbD_of_ge v (i - lo) (by omega)]
  · have h3 : i < lo := by omega
    simp [h1, h3]

/-- The field of a row, read back from its own record. -/
theorem bits_wordAt_withField {n : Nat} (ws : List Word) (k lo : Nat) (v : BitVec n) (hk : k < ws.length) (h : lo + n ≤ 32) :
    bits (wordAt (withField ws k lo n v) k) lo n = v := by
  have hw : wordAt (withField ws k lo n v) k = (ws[k] &&& ~~~(place (BitVec.allOnes n) lo)) ||| place v lo := by
    simp [wordAt, withField, hk]
  rw [hw]
  apply BitVec.eq_of_getLsbD_eq
  intro i hi
  rw [bits, BitVec.getLsbD_extractLsb', getLsbD_setField _ _ _ _ (by omega)]
  simp [hi]

/-- A field of the same word that does not meet the row's field is unchanged. -/
theorem bits_wordAt_withField_of_disjoint {n : Nat} (ws : List Word) (k lo : Nat) (v : BitVec n) (lo' n' : Nat)
    (hk : k < ws.length) (h : lo' + n' ≤ 32) (hd : lo' + n' ≤ lo ∨ lo + n ≤ lo') :
    bits (wordAt (withField ws k lo n v) k) lo' n' = bits (wordAt ws k) lo' n' := by
  have hw : wordAt (withField ws k lo n v) k = (ws[k] &&& ~~~(place (BitVec.allOnes n) lo)) ||| place v lo := by
    simp [wordAt, withField, hk]
  have hw' : wordAt ws k = ws[k] := by simp [wordAt, hk]
  rw [hw, hw']
  apply BitVec.eq_of_getLsbD_eq
  intro i hi
  rw [bits, bits, BitVec.getLsbD_extractLsb', BitVec.getLsbD_extractLsb', getLsbD_setField _ _ _ _ (by omega), if_neg (by omega)]

/-- The other words of the record are unchanged. -/
theorem wordAt_withField_of_ne {n : Nat} (ws : List Word) (k j lo : Nat) (v : BitVec n) (h : j ≠ k) :
    wordAt (withField ws k lo n v) j = wordAt ws j := by
  simp [wordAt, withField, List.getD_eq_getElem?_getD, Ne.symm h]

theorem length_withField {n : Nat} (ws : List Word) (k lo : Nat) (v : BitVec n) :
    (withField ws k lo n v).length = ws.length := by simp [withField]

end Sys2Proof.Machine
end

