-- ==== Sys2Proof/Laws/Decode.lean ====
section
/-! SUPPORT. How far the check order of a memory request goes, in the claims' terms: the command of a kind, stages 1 to 3, the matching
window, the FREE entry that is picked; and what the four endings of an issue come to. -/

namespace Sys2Proof.Machine

/-- The command of a kind decodes its request in the state it is offered from. -/
theorem exec_memoryCommand {k : MemKind} {q : MemoryRequest} {s u : State} (h : s.Offers (.memory k q) u) :
    exec (memoryCommand k q) s = .next (u.decodeMemory k q) := by
  cases k with
  | wrp => simp only [memoryCommand, exec, execPostedWrite, State.takeRequest_of_offers _ h]
  | np k =>
    cases k <;>
      simp only [memoryCommand, exec, execRead, execConfirmedWrite, execExchange, State.takeRequest_of_offers _ h]

/-- R9: a well-formed request passes stage 1. -/
theorem State.decodeMemory_of_wellFormedAt {k : MemKind} {q : MemoryRequest} {a : Address} {u : State} (h : WellFormedAt k q a) :
    u.decodeMemory k q = match k with | .np nk => u.decodeNonPosted nk q a | .wrp => u.decodeNew .wrp q a := by
  cases k <;> simp [State.decodeMemory, h.1, formatCauses_of_wellFormedAt h]

/-- R12: a request that reaches stage 3 passes stages 1 and 2. -/
theorem State.decodeMemory_of_reachesStage3 {k : MemKind} {q : MemoryRequest} {a : Address} {u : State}
    (h : u.ReachesStage3 k q a) : u.decodeMemory k q = u.decodeNew k q a := by
  rw [State.decodeMemory_of_wellFormedAt h.1]
  cases k with
  | wrp => rfl
  | np k =>
    have := h.2 (by simp)
    simp [State.decodeNonPosted, State.findEntry_eq_none.2 this]

theorem State.draining_eq_false {s : State} : s.draining = false ↔ s.controller = .idle := by
  unfold State.draining
  cases s.controller <;> simp

theorem State.draining_eq_true {s : State} : s.draining = true ↔ s.controller ≠ .idle := by
  unfold State.draining
  cases s.controller <;> simp

/-- R15: no permission cause applies exactly when the window permits the request. -/
theorem permissionCauses_any_eq_false (k : MemKind) (r : Requester) (w : Window) :
    (permissionCauses k r w).any = false ↔ w.permits k r := by
  cases k with
  | wrp => simp [permissionCauses, FaultCauses.any, Window.permits]
  | np k => cases k <;> simp [permissionCauses, FaultCauses.any, Window.permits]

theorem Window.target_eq_some {w : Window} {b : BranchId} (h : w.branch.toNat = b) : w.target = some b := by
  have hb := b.isLt
  unfold Window.target
  rw [dif_pos (by rw [h]; exact hb)]
  simp [h]

/-- R14 to R22: what becomes of a request that its window permits. -/
theorem State.decodeNew_of_passes {k : MemKind} {q : MemoryRequest} {a : Address} {i : WindowId} {u : State} (h : u.Passes k q a i) :
    u.decodeNew k q a
      = (match u.active[i].target with
        | some b =>
          if u.unavailable b then u.refuseDecode k q a .unavailable .unavailable (some b) (some i) else u.takeIn k q a b
        | none => u.answer q.requester q.tag (absorbedAnswer k q.length.toNat)) := by
  obtain ⟨h1, h2, h3, h4⟩ := h
  simp only [State.decodeNew, State.draining_eq_false.2 h2, State.matchWindow_eq_some.2 h3, Bool.false_eq_true, if_false]
  cases ht : u.active[i].target <;>
    simp only [State.decodeAt, (permissionCauses_any_eq_false _ _ _).2 h4, Bool.false_eq_true, if_false, ht]

theorem absorbedAnswer_eq (k : MemKind) (q : MemoryRequest) : absorbedAnswer k q.length.toNat = AllOnesAnswer k q := by
  cases k with
  | wrp => rfl
  | np k => cases k <;> rfl

theorem State.pickFree_eq_none {u : State} : u.pickFree = none ↔ ∀ n : EntryId, u.entries[n] ≠ .free := by
  have hm : ∀ n : EntryId, n ∈ u.freeEntries ↔ u.entries[n] = .free := by intro n; simp [State.freeEntries]
  unfold State.pickFree
  cases h : u.freeEntries with
  | nil =>
    refine ⟨fun _ n hn => ?_, fun _ => rfl⟩
    have := (hm n).2 hn
    simp [h] at this
  | cons x xs =>
    refine ⟨fun hx => by simp at hx, fun hx => absurd ((hm x).1 (by simp [h])) (hx x)⟩

/-- R21: the entry that is picked is FREE, whatever the free value. -/
theorem State.free_of_pickFree_eq_some {u : State} {n : EntryId} (h : u.pickFree = some n) : u.entries[n] = .free := by
  have hm : ∀ n : EntryId, n ∈ u.freeEntries ↔ u.entries[n] = .free := by intro n; simp [State.freeEntries]
  unfold State.pickFree at h
  cases hh : u.freeEntries with
  | nil => simp [hh] at h
  | cons x xs =>
    simp only [hh, Option.some.injEq] at h
    refine (hm n).1 ?_
    rw [hh, ← h, List.getD_eq_getElem _ _ (by simpa using Nat.mod_lt _ (Nat.succ_pos _))]
    exact List.getElem_mem _

/-- R89, R91: each of the four endings ends the outstanding request. -/
theorem exec_of_endsIssue {s u : State} {b : BranchId} {c : Instr} {e : Ending} {words : Nat} {o : Outstanding}
    (h : s.EndsIssue b c e words u) (ho : u.branches[b].outstanding = some o) (hw : u.doneWords b o = words) :
    exec c s = .next (u.endIssue b o e) := by
  rcases h with ⟨count, ws, rfl, rfl, hc, hl, hoff⟩ | ⟨rfl, rfl, hoff⟩ | ⟨rfl, rfl, hoff⟩ | ⟨rfl, rfl, ht, rfl⟩
  · simp only [exec, execDone, State.takeTarget_of_offers _ hoff, State.takeAnswer, ho]
    simp [answerWellFormed, hw, hc, hl, endingOf]
  · simp only [exec, execLater, State.takeTarget_of_offers _ hoff, State.takeAnswer, ho]
    simp [answerWellFormed, endingOf]
  · simp only [exec, execRefuse, State.takeTarget_of_offers _ hoff, State.takeAnswer, ho]
    simp [answerWellFormed, endingOf]
  · have ho' : s.branches[b].outstanding = some o := ho
    obtain ⟨x, hx⟩ := Option.isSome_iff_exists.1 ht
    simp only [exec, execResponseTimeout, ho', hx]
    rfl

end Sys2Proof.Machine
end

