-- ==== Sys2Proof/Laws/Fields.lean ====
section
/-! SUPPORT. Reading a field of a word that was put together from placed fields: the field placed there is read, the others leave it
alone. -/

namespace Sys2Proof

theorem bits_or (v w : Word) (lo n : Nat) : bits (v ||| w) lo n = bits v lo n ||| bits w lo n := by
  apply BitVec.eq_of_getLsbD_eq
  intro i hi
  simp [bits, hi]

theorem bit_or (v w : Word) (i : Nat) : bit (v ||| w) i = (bit v i || bit w i) := by simp [bit]

theorem getLsbD_place {n : Nat} (v : BitVec n) (lo i : Nat) :
    (place v lo).getLsbD i = (decide (i < 32) && decide (lo ≤ i) && v.getLsbD (i - lo)) := by
  simp only [place, BitVec.getLsbD_shiftLeft, BitVec.getLsbD_setWidth]
  by_cases h1 : i < 32 <;> by_cases h2 : lo ≤ i
  · have : i - lo < 32 := by omega
    simp [h1, h2, this, Nat.not_lt.2 h2]
  · simp [h2, Nat.not_le.1 h2]
  · simp [h1]
  · simp [h1]

/-- The field placed at its own bits. -/
theorem bits_place {n : Nat} (v : BitVec n) (lo : Nat) (h : lo + n ≤ 32) : bits (place v lo) lo n = v := by
  apply BitVec.eq_of_getLsbD_eq
  intro i hi
  have h1 : lo + i < 32 := by omega
  simp only [bits, BitVec.getLsbD_extractLsb', hi, decide_true, Bool.true_and, getLsbD_place, h1, Nat.le_add_right,
    Nat.add_sub_cancel_left]

/-- A field placed elsewhere. -/
theorem bits_place_of_disjoint {n : Nat} (v : BitVec n) (lo lo' n' : Nat) (h : lo' + n' ≤ lo ∨ lo + n ≤ lo') :
    bits (place v lo) lo' n' = 0 := by
  apply BitVec.eq_of_getLsbD_eq
  intro i hi
  simp only [bits, BitVec.getLsbD_extractLsb', getLsbD_place, hi, decide_true, Bool.true_and]
  by_cases h1 : lo ≤ lo' + i
  · have : n ≤ lo' + i - lo := by omega
    simp [BitVec.getLsbD_of_ge v _ this]
  · simp [h1]

theorem bit_place_of_disjoint {n : Nat} (v : BitVec n) (lo i : Nat) (h : i < lo ∨ lo + n ≤ i) : bit (place v lo) i = false := by
  simp only [bit, getLsbD_place]
  by_cases h1 : lo ≤ i
  · have : n ≤ i - lo := by omega
    simp [BitVec.getLsbD_of_ge v _ this]
  · simp [h1]

theorem bit_placeFlag (f : Bool) (i : Nat) (h : i < 32) : bit (placeFlag f i) i = f := by
  simp only [bit, placeFlag, getLsbD_place, h, le_refl, decide_true, Bool.true_and, Nat.sub_self]
  cases f <;> rfl

theorem bit_placeFlag_of_ne (f : Bool) (i j : Nat) (h : j ≠ i) : bit (placeFlag f i) j = false :=
  bit_place_of_disjoint _ _ _ (by omega)

theorem bits_placeFlag_of_disjoint (f : Bool) (i lo n : Nat) (h : lo + n ≤ i ∨ i < lo) : bits (placeFlag f i) lo n = 0 :=
  bits_place_of_disjoint _ _ _ _ (by omega)

theorem bits_placeNat (v n lo : Nat) (h : lo + n ≤ 32) : bits (placeNat v n lo) lo n = BitVec.ofNat n v := bits_place _ _ h

theorem bits_placeNat_of_disjoint (v n lo lo' n' : Nat) (h : lo' + n' ≤ lo ∨ lo + n ≤ lo') :
    bits (placeNat v n lo) lo' n' = 0 := bits_place_of_disjoint _ _ _ _ h

theorem bit_placeNat_of_disjoint (v n lo i : Nat) (h : i < lo ∨ lo + n ≤ i) : bit (placeNat v n lo) i = false :=
  bit_place_of_disjoint _ _ _ h

theorem bits_zero (lo n : Nat) : bits (0 : Word) lo n = 0 := by
  apply BitVec.eq_of_getLsbD_eq
  intro i hi
  simp [bits]

theorem bit_zero (i : Nat) : bit (0 : Word) i = false := by simp [bit]

/-- A field widened to a word is the field placed at bit 0. -/
theorem setWidth_eq_place {n : Nat} (v : BitVec n) : (v.setWidth 32 : Word) = place v 0 := by simp [place]

/-- R173: an address read back from its two words, whatever shares the first one's upper bits. -/
theorem addressOf_words (a : Address) (w : Word) (h : bits w 0 8 = 0) : addressOf (w ||| addressHigh a) (addressLow a) = a := by
  have hb : bits (w ||| addressHigh a) 0 8 = a.extractLsb' 32 8 := by
    rw [bits_or, h, addressHigh, setWidth_eq_place, bits_place _ _ (by omega)]
    simp
  have e : ∀ (x : BitVec 8) (y : Word), x = a.extractLsb' 32 8 → y = a.extractLsb' 0 32 → (x ++ y : BitVec 40) = a := by
    rintro x y rfl rfl
    apply BitVec.eq_of_getLsbD_eq
    intro i hi
    refine (BitVec.getLsbD_append (x := a.extractLsb' 32 8) (y := a.extractLsb' 0 32) (i := i)).trans ?_
    by_cases h1 : i < 32
    · simp [h1]
    · have h2 : i - 32 < 8 := by omega
      have h3 : 32 + (i - 32) = i := by omega
      simp [h1, h2, h3]
  exact e _ _ hb rfl

end Sys2Proof

namespace Sys2Proof.Machine

theorem wordAt_zero (w : Word) (ws : List Word) : wordAt (w :: ws) 0 = w := rfl

theorem wordAt_succ (w : Word) (ws : List Word) (k : Nat) : wordAt (w :: ws) (k + 1) = wordAt ws k := rfl

end Sys2Proof.Machine
end

