-- ==== Sys2Proof/Tests/Slice0.lean ====
section
/-! SUPPORT. The model's own tests: ill-formed commands are refused by each check; packet, frame and record layouts against words
written out from R165, R166, R173, R175 and R176; one step of each command on a small state; and, for each claim with hypotheses, a
state and operands that meet them. -/

set_option Elab.async false

namespace Sys2Proof.Tests

open Sys2Proof Sys2Proof.Machine

/-! ### Small states and operands -/

/-- The link fields of a port that is UP. -/
def upLink : LinkPort := { LinkPort.fresh with up := true }

/-- An ACTIVE branch. -/
def upBranch : Branch := { Branch.fresh with link := upLink }

/-- A valid window of one page. -/
def window (page : Page) (branch : BitVec 3) (mask : Word) : Window :=
  { valid := true, base := page, limit := page, branch := branch, posted := true, readMask := mask, writeMask := mask }

/-- The trunk UP; B0, B2 and B3 ACTIVE and B1 DOWN; page 0 is B0's, page 1 is SINK, page 2 is B0's and permits nobody, page 3 is
B1's, and the other pages are unclaimed. -/
def up : State :=
  { State.reset with
    trunk := { TrunkPort.fresh with link := upLink }
    branches := (Vector.replicate 4 upBranch).set 1 Branch.fresh
    active :=
      ((((Vector.replicate 32 Window.blank).set 0 (window 0 0 allOnes)).set 1 (window 1 4 allOnes)).set 2 (window 2 0 0)).set 3
        (window 3 1 allOnes) }

/-- `up` with branch 0 changed. -/
def upWith (f : Branch → Branch) : State := up.modBranch 0 f

/-- `up` while the controller is DRAINING. -/
def draining : State := { up with controller := .draining 4096 }

/-- The write data of a request of one word. -/
def oneWord (k : MemKind) : List Word := if k = .np .rd then [] else [7]

/-- A request of one word of requester 1 with tag 2. -/
def request (k : MemKind) (a : Address) : MemoryRequest :=
  { requester := 1, tag := 2, length := 1, address := some a, data := oneWord k }

/-- A live entry of requester 1 with tag 2: an RD of one word at address 0 on branch 0. -/
def held (st : EntryState) : LiveEntry :=
  { req := { requester := 1, tag := 2, kind := .rd, address := 0, length := 1, data := [], branch := 0, generation := 0 }
    attempts := 1, state := st }

/-- A completion with a fence or without. -/
def result (fence : Option (BitVec 16)) : Completion := { status := .ok, data := [5], fence := fence, timer := 2048 }

/-- `up` with that entry at index 15. -/
def upHeld (st : EntryState) : State := up.setEntry 15 (.live (held st))

/-- A posted item of one word. -/
def item (st : DeliveryState) : PostedItem :=
  { requester := 1, tag := 2, address := 0, length := 1, data := [7], generation := 0, attempts := 1, state := st }

/-- An MW of requester 0. -/
def write (index : BitVec 8) (words : List Word) : ObjectWrite :=
  { requester := 0, tag := 0, length := BitVec.ofNat 6 words.length, index := index, words := words }

/-- Whether a command answers a next state of which a test is true. -/
def runs (c : Instr) (s : State) (test : State → Bool) : Bool :=
  match exec c s with
  | .next t => test t
  | _ => false

/-- Whether a command hands over an answer to requester 1 with tag 2. -/
def answers (c : Instr) (s : State) (a : AnswerBody) : Bool :=
  runs c s (fun t => t.trunk.answers == [{ requester := 1, tag := 2, body := a }])

/-- Whether an MW of `write` is answered CPL OK and a test is true of the next state. -/
def writes (c : Instr) (s : State) (test : State → Bool) : Bool :=
  runs c s (fun t => t.trunk.answers == [{ requester := 0, tag := 0, body := .completion .ok [] }] && test t)

/-- On `s` without delivered packets every packet can be taken. -/
theorem offers {s : State} (p : TrunkPacket) (h : s.trunk.link.up = true) (hd : s.trunk.delivered = [])
    (ha : s.trunk.answers.length < 32) : s.Offers p { s with sent := [] } :=
  ⟨h, Or.inr ⟨by simp [hd], by simpa [hd] using ha, rfl⟩⟩

theorem offersTarget {s : State} {b : BranchId} (p : TargetPacket) (h : s.branches[b].link.up = true)
    (hr : s.branches[b].reset = false) (hd : s.branches[b].delivered = []) (hn : s.branches[b].noticePlaces < 16) :
    s.OffersTarget b p { s with sent := [] } := ⟨h, hr, Or.inr ⟨hd, hn, rfl⟩⟩

theorem writesOf {s : State} {m : ObjectWrite} (c : ObjectClass) {n : Nat} (h : s.trunk.link.up = true)
    (hd : s.trunk.delivered = []) (ha : s.trunk.answers.length < 32) (hl : m.length.toNat = n) (hw : m.words.length = n)
    (hm : s.settings[m.requester].manager = true) : s.Writes m c n { s with sent := [] } := ⟨offers _ h hd ha, hl, hw, hm⟩

/-! ### The checks of WellFormed refuse -/

theorem test_refuses_41_words : (Instr.read { request (.np .rd) 0 with data := List.replicate 38 0 }).wellFormed = false := by decide
theorem test_refuses_data_without_address :
    (Instr.confirmedWrite { request (.np .wrn) 0 with address := none }).wellFormed = false := by decide
theorem test_refuses_long_posted_write :
    (Instr.postedWrite { request .wrp 0 with data := List.replicate 38 0 }).wellFormed = false := by decide
theorem test_refuses_long_exchange :
    (Instr.exchange { request (.np .xch) 0 with data := List.replicate 38 0 }).wellFormed = false := by decide
theorem test_refuses_long_abandon : (Instr.abandon 0 0 40).wellFormed = false := by decide
theorem test_refuses_known_kind : (Instr.unknownKind 0x07 0 0).wellFormed = false := by decide
theorem test_refuses_record_without_object :
    (Instr.managementRead { requester := 0, tag := 0, length := 0, object := none, words := [1] }).wellFormed = false := by decide
theorem test_refuses_general_write_of_a_row :
    (Instr.managementWrite (objectRequest (write 0 [1, 0]) .commit)).wellFormed = false := by decide
theorem test_accepts_general_write_unlisted_action :
    (Instr.managementWrite (objectRequest (write 0 [5, 0]) .commit)).wellFormed = true := by decide
theorem test_refuses_long_record :
    (Instr.winStagedWrite (write 0 (List.replicate 39 0))).wellFormed = false
      ∧ (Instr.reqWrite (write 0 (List.replicate 39 0))).wellFormed = false
      ∧ (Instr.branchSettingsWrite (write 0 (List.replicate 39 0))).wellFormed = false
      ∧ (Instr.alertAcknowledge (write 0 (List.replicate 39 0))).wellFormed = false
      ∧ (Instr.alertEnable (write 0 (List.replicate 39 0))).wellFormed = false
      ∧ (Instr.timingWrite (write 0 (List.replicate 39 0))).wellFormed = false := by decide
theorem test_refuses_another_action :
    (Instr.immediate (write 0 [2, 0])).wellFormed = false ∧ (Instr.drain (write 0 [1, 0])).wellFormed = false
      ∧ (Instr.cancel (write 0 [1, 0])).wellFormed = false ∧ (Instr.revert (write 0 [1, 0])).wellFormed = false
      ∧ (Instr.take (write 0 [0, 0, 0, 0])).wellFormed = false ∧ (Instr.partReset (write 0 [0, 0])).wellFormed = false := by decide
theorem test_refuses_another_flag :
    (Instr.holdFlagSet (write 0 [0, 0, 0, 0])).wellFormed = false
      ∧ (Instr.holdFlagCleared (write 0 [0, 0x10000, 0, 0])).wellFormed = false
      ∧ (Instr.resetFlagSet (write 0 [0, 0, 0, 0])).wellFormed = false
      ∧ (Instr.resetFlagCleared (write 0 [0, 0x20000, 0, 0])).wellFormed = false
      ∧ (Instr.probeRead (write 0 [2, 0, 0, 0])).wellFormed = false
      ∧ (Instr.probeWrite (write 0 [1, 0, 0, 0])).wellFormed = false := by decide
theorem test_refuses_long_target_packets :
    (Instr.done 0 0 (List.replicate 40 0)).wellFormed = false ∧ (Instr.later 0 0 (List.replicate 40 0)).wellFormed = false
      ∧ (Instr.refuse 0 0 (List.replicate 40 0)).wellFormed = false
      ∧ (Instr.bntc 0 0 0 (List.replicate 40 0)).wellFormed = false := by decide
theorem test_refuses_stray_of_known_kind : (Instr.strayTargetPacket 0 (.other 0x2B)).wellFormed = false := by decide
theorem test_refuses_empty_and_long_frames :
    (Instr.dataFrame .trunk 0 []).wellFormed = false ∧ (Instr.dataFrame .trunk 0 (List.replicate 41 0)).wellFormed = false := by decide

/-! ### Layouts against words written out from the spec -/

/-- R173, R174: kind 01h, requester 5, tag 3, length 4; address 12_3456_7010h. -/
theorem test_reads_rd :
    TrunkPacket.ofWords [0x01053100, 0x00000012, 0x34567010]
      = .memory (.np .rd) { requester := 5, tag := 3, length := 4, address := some 0x1234567010, data := [] } := by decide
/-- R173: bits that the layout does not name are not examined. -/
theorem test_ignores_unnamed_bits :
    TrunkPacket.ofWords [0x03E5313F, 0xABCDEF12, 0x34567010, 9]
      = .memory .wrp { requester := 5, tag := 3, length := 4, address := some 0x1234567010, data := [9] } := by decide
/-- R173, R174: the last requester, tag and length: kind 04h, requester 31, tag 15, length 63, a packet too short for its address. -/
theorem test_reads_short_xch :
    TrunkPacket.ofWords [0x041FFFC0]
      = .memory (.np .xch) { requester := 31, tag := 15, length := 63, address := none, data := [] } := by decide
theorem test_reads_abn : TrunkPacket.ofWords [0x05021000, 0] = .abandon 2 1 1 := by decide
theorem test_reads_mr_of_entry :
    TrunkPacket.ofWords [0x06000200, 0x0000090F]
      = .managementRead { requester := 0, tag := 0, length := 8, object := some (9, 15), words := [] } := by decide
theorem test_reads_mw_of_timing :
    TrunkPacket.ofWords [0x07011080, 0x00000B00, 1, 2]
      = .managementWrite (objectRequest { requester := 1, tag := 1, length := 2, index := 0, words := [1, 2] } .timing) := by decide
theorem test_reads_unknown_kind : TrunkPacket.ofWords [0x10021000, 1, 2] = .unknown 0x10 2 1 := by decide
theorem test_reads_done_and_bntc :
    TargetPacket.ofWords [0x28000040, 7] = .answer .done 1 [7] ∧ TargetPacket.ofWords [0x2A000000] = .answer .refuse 0 []
      ∧ TargetPacket.ofWords [0x2B000255, 1, 2] = .notice 2 0x55 [1, 2] := by decide
/-- R165, R166: an ACK of number 5, a RESEND of 16, a TRAIN with the ready flag, and a DATA frame of number 7 with one word; the check
words were computed outside Lean from the definition of R166. -/
theorem test_reads_frames :
    Frame.ofWords [0x20000500, 0x452F8400] = some (.ack 5) ∧ Frame.ofWords [0x30001000, 0x3557D2C5] = some (.resend 16)
      ∧ Frame.ofWords [0x40000100, 0x3BF1730D] = some (.train true)
      ∧ Frame.ofWords [0x10010007, 0x05012000, 0x0E74EC7B] = some (.data 7 [0x05012000]) := by decide +kernel
theorem test_refuses_frames :
    Frame.ofWords [0x20000500, 0x452F8401] = none ∧ Frame.ofWords [0x20000500] = none
      ∧ Frame.ofWords [0x10020007, 0x05012000, checkWord [0x10020007, 0x05012000]] = none
      ∧ Frame.ofWords [0x50000000, checkWord [0x50000000]] = none ∧ Frame.ofWords [0x10000007, checkWord [0x10000007]] = none
      := by decide +kernel
/-- R173, R174: BSY TAG-HELD to requester 1 tag 2; CPL REFUSED; NTC of branch 3 with one word to requester 4. -/
theorem test_writes_answers :
    ({ requester := 1, tag := 2, body := .busy .tagHeld } : Answer).toWords = [0x12012006]
      ∧ ({ requester := 1, tag := 2, body := .completion .refused [] } : Answer).toWords = [0x13012007]
      ∧ ({ requester := 1, tag := 2, body := .completion .ok [8] } : Answer).toWords = [0x13012040, 8]
      ∧ ({ seq := 9, source := .target 3 0x21, dest := 4, payload := [6] } : Notice).toWords = [0x14046121, 9, 6]
      ∧ ({ seq := 9, source := .alert .commit, dest := 4, payload := [1] } : Notice).toWords = [0x1404E105, 9, 1] := by decide
theorem test_writes_branch_requests :
    (held .queued).req.issueWords = [0x20000040, 0, 0]
      ∧ ({ item .ready with address := 0xFF00000004 } : PostedItem).issueWords = [0x21000040, 0xFF, 4, 7]
      ∧ ProbeOperation.issueWords (.write 3) 8 = [0x21000040, 0, 8, 3] := by decide
/-- R175: the settings record of a branch after reset, read as the MR of BRANCH[0] gives it: timeout 64, interval 4, budget 1024,
watermark 12, state DOWN. -/
theorem test_writes_branch_record : State.reset.record (.branch 0) = [0x40040400, 0x0000000C, 0x00000002, 0] := by decide +kernel
/-- R175: IDENT, and PART, REQ, TIMING, ALERT and COMMIT after power-up. -/
theorem test_writes_records :
    State.reset.record .ident = [0x3E27, 0x0742, 1, 0x20102004] ∧ State.reset.record .part = [0x200, 0]
      ∧ State.reset.record (.req 31) = [0x302, 0] ∧ State.reset.record .timing = [2048, 4096]
      ∧ State.reset.record .alert = [0x3F, 0x04000020] ∧ State.reset.record .commit = [0, 0] := by decide +kernel
/-- R176: a PERMISSION fault with NO-READ and NO-WRITE of requester 1, tag 2, kind XCH, at window 2 of branch 0. -/
theorem test_writes_fault_record :
    faultRecord
        { entries :=
            [{ causes := .permission true true false false false, requester := 1, kind := 4, tag := 2, address := some 0x0100000008
               object := none, branch := some 0, window := some 2, generation := 3 }], drops := 5 }
      = [0xC003050D, 0x04012002, 0x00030001, 0x00000008] := by decide

/-! ### One step of each command -/

theorem test_read_deferred : answers (.read (request (.np .rd) 0)) up .deferred = true := by decide +kernel
theorem test_read_sink : answers (.read (request (.np .rd) 0x1000)) up (.completion .ok [allOnes]) = true := by decide +kernel
theorem test_confirmedWrite_denied :
    answers (.confirmedWrite (request (.np .wrn) 0x2000)) up (.completion .denied []) = true := by decide +kernel
theorem test_confirmedWrite_draining : answers (.confirmedWrite (request (.np .wrn) 0)) draining (.busy .draining) = true := by
  decide +kernel
theorem test_postedWrite_taken :
    runs (.postedWrite (request .wrp 0)) up (fun t => t.branches[(0 : BranchId)].queue == [.posted { item .ready with attempts := 0 }])
      = true := by decide +kernel
theorem test_postedWrite_unclaimed : answers (.postedWrite (request .wrp 0x4000)) up (.completion .unclaimed []) = true := by
  decide +kernel
theorem test_exchange_unavailable :
    answers (.exchange (request (.np .xch) 0x3000)) up (.completion .unavailable []) = true := by decide +kernel
theorem test_exchange_conflict :
    answers (.exchange (request (.np .xch) 0)) (upHeld .queued) (.completion .conflict []) = true := by decide +kernel
theorem test_abandon_issued :
    runs (.abandon 1 2 0) (upHeld .issued) (fun t => t.entries[(15 : EntryId)] == .live (held .disowned)) = true := by decide +kernel
theorem test_unknownKind : answers (.unknownKind 0x20 1 2) up (.completion .format []) = true := by decide +kernel
theorem test_managementRead_ident :
    runs (.managementRead { requester := 1, tag := 2, length := 4, object := some (1, 0), words := [] }) up
        (fun t => t.trunk.answers == [{ requester := 1, tag := 2, body := .completion .ok [0x3E27, 0x0742, 1, 0x20102004] }]) = true := by
  decide +kernel
theorem test_managementWrite_readOnly :
    runs (.managementWrite (objectRequest (write 0 [0, 0, 0, 0]) .ident)) up
        (fun t => t.trunk.answers == [{ requester := 0, tag := 0, body := .completion .denied [] }]) = true := by decide +kernel
theorem test_winStagedWrite :
    writes (.winStagedWrite (write 31 [0xC0000005, 0x10000006, 1, 2])) up
        (fun t => t.staged[(31 : WindowId)]
          == { valid := true, base := 5, limit := 6, branch := 4, posted := true, readMask := 1, writeMask := 2 }) = true := by
  decide +kernel
theorem test_immediate : writes (.immediate (write 0 [1, 0])) up (fun t => t.generation == 1 && t.outcome == .done) = true := by
  decide +kernel
theorem test_drain_waits : writes (.drain (write 0 [2, 0])) (upHeld .issued) (fun t => t.controller == .draining 4096) = true := by
  decide +kernel
theorem test_cancel : writes (.cancel (write 0 [3, 0])) draining (fun t => t.controller == .idle && t.outcome == .cancelled) = true := by
  decide +kernel
theorem test_revert : writes (.revert (write 0 [4, 0])) up (fun t => t.staged == t.active) = true := by decide +kernel
theorem test_reqWrite :
    writes (.reqWrite (write 31 [0x110, 0])) up
        (fun t => t.settings[(31 : Requester)] == { quota := 16, strict := true, manager := false }) = true := by decide +kernel
theorem test_take : writes (.take (write 31 [1, 0, 0, 0])) up (fun _ => true) = true := by decide +kernel
theorem test_branchSettingsWrite :
    writes (.branchSettingsWrite (write 3 [0x01020003, 0x00001F10, 0, 0])) up
        (fun t => t.branches[(3 : BranchId)]
          == { upBranch with timeout := 1, interval := 2, budget := 3, dest := 31, watermark := 16 }) = true := by decide +kernel
theorem test_holdFlagSet :
    writes (.holdFlagSet (write 0 [0x40040400, 0x1000C, 0, 0])) up (fun t => t.branches[(0 : BranchId)].state == .held) = true := by
  decide +kernel
theorem test_holdFlagCleared :
    writes (.holdFlagCleared (write 0 [0x40040400, 0x0000C, 0, 0])) (upWith (fun br => { br with hold := true }))
        (fun t => t.branches[(0 : BranchId)].state == .active) = true := by decide +kernel
theorem test_resetFlagSet :
    writes (.resetFlagSet (write 0 [0x40040400, 0x2000C, 0, 0])) (upWith (fun br => { br with queue := [.posted (item .ready)] }))
        (fun t => t.branches[(0 : BranchId)].state == .reset && t.branches[(0 : BranchId)].queue.isEmpty
          && t.logs[(1 : Requester)].entries.length == 1) = true := by decide +kernel
theorem test_resetFlagCleared :
    writes (.resetFlagCleared (write 1 [0x40040400, 0x0000C, 0, 0])) (up.modBranch 1 (fun br => { br with reset := true }))
        (fun t => t.branches[(1 : BranchId)].state == .down) = true := by decide +kernel
theorem test_probeRead :
    writes (.probeRead (write 0 [1, 1, 8, 0])) up (fun t => t.branches[(0 : BranchId)].probe == .pending .read 0x0100000008) = true := by
  decide +kernel
theorem test_probeWrite_unavailable :
    writes (.probeWrite (write 1 [2, 0, 8, 9])) up
        (fun t => t.branches[(1 : BranchId)].probe == .done (.write 9) 8 .unavailable) = true := by decide +kernel
theorem test_alertAcknowledge :
    writes (.alertAcknowledge (write 0 [0x0020043F, 0])) up
        (fun t => t.alerts.restart == { enabled := true, raised := none, marker := .queued } && t.alertDest == 4) = true := by
  decide +kernel
theorem test_alertEnable :
    writes (.alertEnable (write 0 [0x0000001F, 0])) up (fun t => !t.alerts.restart.enabled && t.alerts.fault.enabled) = true := by
  decide +kernel
theorem test_timingWrite :
    writes (.timingWrite (write 0 [65535, 1])) up (fun t => t.collectionLimit == 65535 && t.drainLimit == 1) = true := by decide +kernel
theorem test_partReset :
    writes (.partReset (write 0 [1, 0])) (upHeld .issued)
        (fun t => t.trunk.link.up && t.resetCause == .managed && t.entries[(15 : EntryId)] == .free) = true := by decide +kernel
theorem test_hardReset : runs .hardReset up (fun t => t.resetCause == .pin && t.branches == State.reset.branches) = true := by
  decide +kernel
theorem test_powerUp : runs .powerUp up (fun t => t == State.reset) = true := by decide +kernel
theorem test_engineChoice_posted :
    runs (.engineChoice 0) (upWith (fun br => { br with queue := [.posted (item .ready)] }))
        (fun t => t.sent == [(.branch 0, .data 0 [0x21000040, 0, 0, 7])]
          && t.branches[(0 : BranchId)].outstanding == some .posted && t.branches[(0 : BranchId)].responseTimer == some 64) = true := by
  decide +kernel
theorem test_engineChoice_held :
    runs (.engineChoice 0) (upWith (fun br => { br with hold := true, queue := [.posted (item .ready)] })) (fun t => t.sent == [])
      = true := by decide +kernel

/-- `upHeld` with entry 15 outstanding on branch 0. -/
def upOut (st : EntryState) : State :=
  (upHeld st).modBranch 0 (fun br => { br with outstanding := some (.entry 15), responseTimer := some 64 })

theorem test_done_completes :
    runs (.done 0 1 [5]) (upOut .issued) (fun t => t.entries[(15 : EntryId)] == .live (held (.complete (result none)))) = true := by
  decide +kernel
theorem test_later_parks :
    runs (.later 0 0 []) (upOut .issued)
        (fun t => t.branches[(0 : BranchId)].slot == some { entry := 15, interval := 4, passed := false }
          && t.entries[(15 : EntryId)] == .live (held .waiting)) = true := by decide +kernel
theorem test_refuse_frees_disowned :
    runs (.refuse 0 0 []) (upOut .disowned) (fun t => t.entries[(15 : EntryId)] == .free) = true := by decide +kernel
theorem test_bntc_taken :
    runs (.bntc 0 1 0x55 [6]) up
        (fun t => t.sent == [(.branch 0, .data 0 [0x28000000])]
          && t.notices.getLast? == some { seq := 1, source := .target 0 0x55, dest := 0, payload := [6] }) = true := by decide +kernel
theorem test_strayTargetPacket : runs (.strayTargetPacket 0 (.other 0x20)) up (fun t => t == up) = true := by decide +kernel
theorem test_responseTimeout :
    runs (.responseTimeout 0) (upOut .issued)
        (fun t => t.entries[(15 : EntryId)]
          == .live (held (.complete { status := .unreached, data := [], fence := none, timer := 2048 }))) = true := by decide +kernel
theorem test_retryIntervalPasses :
    runs (.retryIntervalPasses 0) (upWith (fun br => { br with slot := some { entry := 15, interval := 4, passed := false } }))
        (fun t => t.branches[(0 : BranchId)].slot == some { entry := 15, interval := 4, passed := true }) = true := by decide +kernel
theorem test_backoffIntervalEnds :
    runs (.backoffIntervalEnds 0) (upWith (fun br => { br with queue := [.posted (item (.backoff 4))] }))
        (fun t => t.branches[(0 : BranchId)].queue == [.posted (item .ready)]) = true := by decide +kernel
theorem test_collectionTimerExpiry :
    runs (.collectionTimerExpiry 15) (upHeld (.complete (result none)))
        (fun t => t.entries[(15 : EntryId)] == .free && t.logs[(1 : Requester)].entries.length == 1
          && t.alerts.uncollected.raised == some 1) = true := by decide +kernel
theorem test_drainTimerExpiry : runs .drainTimerExpiry draining (fun t => t.controller == .idle && t.outcome == .timedOut) = true := by
  decide +kernel
theorem test_transmitChoice_notice :
    runs .transmitChoice up (fun t => t.sent == [(.trunk, .data 0 [0x1400E106, 0, 2])] && t.alerts.restart.marker == .none) = true := by
  decide +kernel
theorem test_dataFrame_delivers :
    runs (.dataFrame .trunk 0 [0x05012000]) up (fun t => t.trunk.delivered == [.abandon 1 2 0] && t.sent == [(.trunk, .ack 0)]) = true := by
  decide +kernel
theorem test_dataFrame_gap : runs (.dataFrame .trunk 1 [0]) up (fun t => t.sent == [(.trunk, .resend 0)]) = true := by decide +kernel

/-- `up` with two frames in the trunk's replay list. -/
def upReplay : State :=
  { up with trunk := { up.trunk with link := { upLink with replay := [(254, [1]), (255, [2])], ackTimer := true, nextSend := 0 } } }

theorem test_ack : runs (.ack .trunk 254) upReplay (fun t => t.trunk.link.replay == [(255, [2])] && t.trunk.link.ackTimer) = true := by
  decide +kernel
theorem test_resend : runs (.resend .trunk 255) upReplay (fun t => t.sent == [(.trunk, .data 255 [2])]) = true := by decide +kernel
theorem test_train_loses_up : runs (.train .trunk true) up (fun t => !t.trunk.link.up && t.trunk.lost) = true := by decide +kernel
theorem test_train_counts :
    runs (.train (.branch 1) true) up
        (fun t => t.branches[(1 : BranchId)].link.readyRun == 1 && !t.branches[(1 : BranchId)].link.ready) = true := by decide +kernel
theorem test_trainFrameSend_comes_up :
    runs (.trainFrameSend (.branch 1))
        (up.modBranch 1 (fun br => { br with link := { br.link with trainRun := 2, readyRun := 4, ready := true } }))
        (fun t => t.branches[(1 : BranchId)].link.up && t.sent == [(.branch 1, .train true)]) = true := by decide +kernel
theorem test_checkFailure_eighth :
    runs (.checkFailure (.branch 0) [0]) (upWith (fun br => { br with link := { br.link with checkFailures := 7 } }))
        (fun t => !t.branches[(0 : BranchId)].link.up) = true := by decide +kernel
theorem test_acknowledgementTimerExpiry :
    runs (.acknowledgementTimerExpiry .trunk) upReplay
        (fun t => t.sent == [(.trunk, .data 254 [1]), (.trunk, .data 255 [2])] && t.trunk.link.resendRounds == 1) = true := by
  decide +kernel
theorem test_signalAbsent : runs (.signalAbsent (.branch 0)) up (fun t => !t.branches[(0 : BranchId)].link.up) = true := by
  decide +kernel

/-! ### The hypotheses of the claims are met

One theorem for each claim that has hypotheses; its clauses stand for the claim's clauses, in order. The claims without hypotheses
(HardResetLeavesResetValues, FaultIsLoggedAndRaised, DrainEndsWhenNoWorkIsLeft, BranchLossEmptiesBranch, LinkLossReachesBlocks,
ResetMeetsTheLaws) need none. -/

/-- `up` with a fault in requester 1's log, and requester 9 the only manager. -/
def upLogged : State :=
  { up with
    logs :=
      up.logs.set 1
        { entries :=
            [{ causes := .uncollected .ok, requester := 1, kind := 1, tag := 2, address := some 0, object := none, branch := some 0
               window := none, generation := 0 }], drops := 255 }
    settings := (Vector.replicate 32 { quota := 2, strict := true, manager := false }).set 9
      { quota := 2, strict := true, manager := true } }

/-- `up` with every entry held by requester 9. -/
def upFull : State :=
  { up with
    entries :=
      Vector.ofFn (fun n : EntryId => .live { held .issued with req := { (held .issued).req with requester := 9, tag := n } }) }

/-- `up` with branch 0's queue full of posted items of one word. -/
def upQueueFull : State := upWith (fun br => { br with queue := List.replicate 16 (.posted (item .ready)), level := true })

/-- `up` with 256 posted words in 8 items on branch 0. -/
def upWordsFull : State :=
  upWith (fun br => { br with queue := List.replicate 8 (.posted { item .ready with length := 32, data := List.replicate 32 0 }) })

theorem test_met_StepRunsFrontCommand : State.reset.pending = [] := rfl

theorem test_met_PartResetKeepsTrunkPort :
    up.Writes (objectWithField (write 0 [0, 0]) 0 0 4 1) .part 2 up.quiet ∧ (write 0 [0, 0]).index = 0 :=
  ⟨writesOf _ rfl rfl (by decide) (by decide) (by decide) (by decide +kernel), rfl⟩

/-- The premises of the clause of R164, for a request of either block. -/
theorem test_met_PartResetKeepsTrunkPort_order :
    (let m := objectRequest (write 0 [1, 0]) .part;
      m.object = some (12, 0) ∧ actionOf m.words = 1 ∧ TrunkPacket.abandon 1 2 0 ≠ .managementWrite m)
      ∧ trunkPacketOf (.abandon 1 2 0) = some (.abandon 1 2 0) ∧ up.trunk.link.up = true := by decide

theorem test_met_TableIsEmptyAfterReset :
    (∃ t, exec .hardReset up = .next t) ∧ (∃ t, exec .powerUp up = .next t) ∧ ∃ t, exec (.partReset (write 0 [0, 0])) up = .next t :=
  ⟨⟨_, rfl⟩, ⟨_, rfl⟩, ⟨_, rfl⟩⟩

theorem test_met_RaiseFollowsTable :
    (State.reset.alerts.get .restart).raised.isSome = true
      ∧ State.reset.alerts.get .fault = { enabled := true, raised := none, marker := .none }
      ∧ (∃ s : State, s.alerts.get .level = { enabled := true, raised := none, marker := .queued })
      ∧ ∃ s : State, s.alerts.get .level = { enabled := false, raised := none, marker := .queued } :=
  ⟨rfl, rfl, ⟨up.putAlert .level { enabled := true, raised := none, marker := .queued }, rfl⟩,
    ⟨up.putAlert .level { enabled := false, raised := none, marker := .queued }, rfl⟩⟩

theorem test_met_LevelFlagFollowsItemCount : 4 ≤ 4 ∧ 4 ≤ 31 := by decide

theorem test_met_PortsTakeWhatTheyAreHanded :
    (up.branches[(0 : BranchId)].toSend = [] ∧ up.branches[(0 : BranchId)].link.up = true
        ∧ up.branches[(0 : BranchId)].link.replay.length < 16)
      ∧ up.branches[(1 : BranchId)].link.up = false
      ∧ 16 ≤ (upWith (fun br => { br with link := { br.link with replay := List.replicate 16 (0, []) } })).branches[(0 : BranchId)].link.replay.length := by
  decide +kernel

theorem test_met_MalformedRequestsAnswerFormat :
    up.Offers (.memory .wrp { request .wrp 0 with address := none, data := [] }) up.quiet
      ∧ up.Offers (.memory (.np .rd) { request (.np .rd) 0 with length := 0 }) up.quiet
      ∧ (0xFFC : Address).toNat % 4 = 0 ∧ ((0xFFC : Address).toNat + 4 * 2 - 1) / 4096 ≠ (0xFFC : Address).toNat / 4096
      ∧ (0x1002 : Address).toNat % 4 ≠ 0 ∧ up.Offers (.unknown 0x00 1 2) up.quiet ∧ up.Offers (.abandon 1 2 39) up.quiet :=
  ⟨offers _ rfl rfl (by decide), offers _ rfl rfl (by decide), by decide, by decide, by decide, offers _ rfl rfl (by decide),
    offers _ rfl rfl (by decide)⟩

theorem pairLaw_upHeld (st : EntryState) (h : st = .queued ∨ st = .issued ∨ st = .waiting ∨ st = .disowned ∨ st = .complete (result none)
    ∨ st = .complete (result (some 1))) : (upHeld st).quiet.PairLaw := by
  unfold State.PairLaw
  rcases h with rfl | rfl | rfl | rfl | rfl | rfl <;> decide +kernel

theorem test_met_AbandonFollowsEntryState :
    (up.Offers (.abandon 1 2 0) up.quiet ∧ up.quiet.PairLaw ∧ up.quiet.DrainLaw
        ∧ ∀ n : EntryId, up.quiet.entries[n].holds 1 2 = false)
      ∧ ∀ st ∈ [EntryState.queued, .issued, .waiting, .disowned, .complete (result none)],
          (upHeld st).Offers (.abandon 1 2 0) (upHeld st).quiet ∧ (upHeld st).quiet.PairLaw ∧ (upHeld st).quiet.DrainLaw
            ∧ (upHeld st).quiet.entries[(15 : EntryId)] = .live (held st) ∧ (held st).req.requester = 1 ∧ (held st).req.tag = 2 := by
  refine ⟨⟨offers _ rfl rfl (by decide), ?_, fun h => absurd h (by decide), by decide +kernel⟩, ?_⟩
  · unfold State.PairLaw; decide +kernel
  · intro st h
    refine ⟨offers _ rfl rfl (show 0 < 32 by decide), pairLaw_upHeld st ?_, fun h => Bool.noConfusion (show false = true from h), rfl, rfl, rfl⟩
    simp only [List.mem_cons, List.not_mem_nil, or_false] at h
    tauto

theorem test_met_AbandonFollowsEntryState_draining :
    ({ upHeld .issued with controller := .draining 1 } : State).quiet.DrainLaw
      ∧ ({ upHeld .issued with controller := .draining 1 } : State).draining = true :=
  ⟨fun _ => by decide +kernel, rfl⟩

theorem wellFormedAt_request (k : MemKind) (a : Address) (h : a.toNat % 4096 = 0) : WellFormedAt k (request k a) a := by
  refine ⟨rfl, show 1 ≤ (1 : BitVec 6).toNat by decide, ?_, ?_, by omega, ?_⟩
  · show (1 : Nat) ≤ _
    split <;> decide
  · show (oneWord k).length = if k = .np .rd then 0 else 1
    unfold oneWord
    split <;> rfl
  · show (a.toNat + 4 * 1 - 1) / 4096 = _
    omega

theorem test_met_RequestsMeetTheirEntry :
    WellFormedAt (.np .rd) (request (.np .rd) 0) 0
      ∧ (∀ st ∈ [EntryState.disowned, .queued, .issued, .waiting, .complete (result none), .complete (result (some 1))],
          (upHeld st).Offers (.memory (.np .rd) (request (.np .rd) 0)) (upHeld st).quiet ∧ (upHeld st).quiet.PairLaw
            ∧ (upHeld st).quiet.entries[(15 : EntryId)] = .live (held st)
            ∧ ((held st).req.kind = .rd ∧ (held st).req.address = 0 ∧ (held st).req.length = (request (.np .rd) 0).length))
      ∧ ¬ ((held .queued).req.kind = .wrn) ∧ WellFormedAt (.np .wrn) (request (.np .wrn) 0) 0 := by
  refine ⟨wellFormedAt_request _ _ (by decide), ?_, by decide, wellFormedAt_request _ _ (by decide)⟩
  intro st h
  refine ⟨offers _ rfl rfl (show 0 < 32 by decide), pairLaw_upHeld st ?_, rfl, rfl, rfl, rfl⟩
  simp only [List.mem_cons, List.not_mem_nil, or_false] at h
  tauto

theorem reaches {u : State} (k : MemKind) (a : Address) (ha : a.toNat % 4096 = 0)
    (h : ∀ n : EntryId, u.entries[n].holds 1 2 = false) : u.ReachesStage3 k (request k a) a :=
  ⟨wellFormedAt_request k a ha, fun _ => h⟩

theorem permits_all (k : MemKind) (p : Page) (b : BitVec 3) : (window p b allOnes).permits k 1 := by
  cases k with
  | wrp => exact ⟨(by decide : inMask allOnes 1 = true), rfl⟩
  | np k =>
    cases k
    · exact (by decide : inMask allOnes 1 = true)
    · exact (by decide : inMask allOnes 1 = true)
    · exact ⟨(by decide : inMask allOnes 1 = true), (by decide : inMask allOnes 1 = true)⟩

theorem not_permits_none (k : MemKind) (p : Page) (b : BitVec 3) : ¬ (window p b 0).permits k 1 := by
  cases k with
  | wrp => exact fun h => absurd h.1 (by decide : ¬ inMask 0 1 = true)
  | np k =>
    cases k
    · exact (by decide : ¬ inMask 0 1 = true)
    · exact (by decide : ¬ inMask 0 1 = true)
    · exact fun h => absurd h.1 (by decide : ¬ inMask 0 1 = true)

/-- In a state with `up`'s windows, a request to page 0 passes at window 0, and one to page 1 at window 1. -/
theorem passesAt0 {u : State} (k : MemKind) (hw : u.active = up.active) (hc : u.controller = .idle)
    (h : ∀ n : EntryId, u.entries[n].holds 1 2 = false) : u.Passes k (request k 0) 0 0 := by
  refine ⟨reaches k 0 (by decide) h, hc, ⟨?_, fun j hj => absurd hj (by simp)⟩, ?_⟩
  · rw [hw]; decide +kernel
  · rw [hw]; exact permits_all k 0 0

theorem passesAt1 {u : State} (k : MemKind) (hw : u.active = up.active) (hc : u.controller = .idle)
    (h : ∀ n : EntryId, u.entries[n].holds 1 2 = false) : u.Passes k (request k 0x1000) 0x1000 1 := by
  refine ⟨reaches k 0x1000 (by decide) h, hc, ⟨?_, ?_⟩, ?_⟩
  · rw [hw]; decide +kernel
  · rw [hw]; decide +kernel
  · rw [hw]; exact permits_all k 1 4

theorem test_met_BusyRefusalsChangeNothing_draining (k : MemKind) :
    draining.Offers (.memory k (request k 0)) draining.quiet ∧ draining.quiet.ReachesStage3 k (request k 0) 0
      ∧ draining.quiet.controller ≠ .idle :=
  ⟨offers _ rfl rfl (by decide), reaches k 0 (by decide) (by decide +kernel), by decide⟩

/-- Full; not full with the quota 2 held; and a full queue: each with the premises of its clause. -/
theorem test_met_BusyRefusalsChangeNothing_np (k : NpKind) :
    (upFull.Offers (.memory (.np k) (request (.np k) 0)) upFull.quiet ∧ upFull.quiet.Passes (.np k) (request (.np k) 0) 0 0
        ∧ upFull.quiet.active[(0 : WindowId)].branch.toNat = 0 ∧ upFull.quiet.branches[(0 : BranchId)].carries = true
        ∧ ∀ n : EntryId, upFull.quiet.entries[n] ≠ .free)
      ∧ (let s := ({ up with settings := up.settings.set 1 { quota := 0, strict := true, manager := true } } : State);
          s.quiet.Passes (.np k) (request (.np k) 0) 0 0 ∧ s.quiet.entries[(0 : EntryId)] = .free
            ∧ s.quiet.settings[(1 : Requester)].quota.toNat ≤ s.quiet.entryCount 1)
      ∧ upQueueFull.quiet.Passes (.np k) (request (.np k) 0) 0 0 ∧ upQueueFull.quiet.entries[(0 : EntryId)] = .free
      ∧ ¬ upQueueFull.quiet.settings[(1 : Requester)].quota.toNat ≤ upQueueFull.quiet.entryCount 1
      ∧ 16 ≤ upQueueFull.quiet.branches[(0 : BranchId)].queue.length := by
  refine ⟨⟨offers _ rfl rfl (by decide), passesAt0 _ rfl rfl (by decide +kernel), by decide +kernel, by decide +kernel,
    by decide +kernel⟩, ⟨passesAt0 _ rfl rfl (by decide +kernel), by decide +kernel, by decide +kernel⟩,
    passesAt0 _ rfl rfl (by decide +kernel), by decide +kernel, by decide +kernel, by decide +kernel⟩

theorem test_met_BusyRefusalsChangeNothing_wrp :
    (upQueueFull.Offers (.memory .wrp (request .wrp 0)) upQueueFull.quiet ∧ upQueueFull.quiet.Passes .wrp (request .wrp 0) 0 0
        ∧ upQueueFull.quiet.branches[(0 : BranchId)].carries = true ∧ 16 ≤ upQueueFull.quiet.branches[(0 : BranchId)].queue.length)
      ∧ upWordsFull.quiet.Passes .wrp (request .wrp 0) 0 0 ∧ upWordsFull.quiet.branches[(0 : BranchId)].queue.length < 16
      ∧ 256 < queueWords upWordsFull.quiet.branches[(0 : BranchId)].queue + (request .wrp 0).length.toNat := by
  refine ⟨⟨offers _ rfl rfl (by decide), passesAt0 _ rfl rfl (by decide +kernel), by decide +kernel, by decide +kernel⟩,
    passesAt0 _ rfl rfl (by decide +kernel), by decide +kernel, by decide +kernel⟩

/-- Page 4 is unclaimed, page 3 is B1's, which is DOWN, and page 2 permits nobody. -/
theorem test_met_DecodeFaultsAreLoggedAndAnswered (k : MemKind) :
    (up.Offers (.memory k (request k 0x4000)) up.quiet ∧ up.quiet.ReachesStage3 k (request k 0x4000) 0x4000
        ∧ up.quiet.controller = .idle ∧ ∀ i : WindowId, up.quiet.active[i].covers (pageOf 0x4000) = false)
      ∧ (up.quiet.ReachesStage3 k (request k 0x3000) 0x3000 ∧ up.quiet.Matches 0x3000 3
        ∧ up.quiet.active[(3 : WindowId)].branch.toNat = (1 : BranchId) ∧ up.quiet.branches[(1 : BranchId)].carries = false)
      ∧ up.quiet.ReachesStage3 k (request k 0x2000) 0x2000 ∧ up.quiet.Matches 0x2000 2
      ∧ (∀ b : BranchId, up.quiet.active[(2 : WindowId)].branch.toNat = b → up.quiet.branches[b].carries = true)
      ∧ ¬ up.quiet.active[(2 : WindowId)].permits k 1 := by
  have h : ∀ n : EntryId, up.quiet.entries[n].holds 1 2 = false := by decide +kernel
  refine ⟨⟨offers _ rfl rfl (by decide), reaches k _ (by decide) h, rfl, by decide +kernel⟩,
    ⟨reaches k _ (by decide) h, ⟨by decide +kernel, by decide +kernel⟩, by decide +kernel, by decide +kernel⟩,
    reaches k _ (by decide) h, ⟨by decide +kernel, by decide +kernel⟩, by decide +kernel, not_permits_none k 2 0⟩

theorem test_met_SinkAnswersAtOnce (k : MemKind) :
    up.Offers (.memory k (request k 0x1000)) up.quiet ∧ up.quiet.Passes k (request k 0x1000) 0x1000 1
      ∧ up.quiet.active[(1 : WindowId)].branch = 4 :=
  ⟨offers _ rfl rfl (by decide), passesAt1 k rfl rfl (by decide +kernel), by decide +kernel⟩

theorem test_met_NonPostedRequestIsParked (k : NpKind) :
    up.Offers (.memory (.np k) (request (.np k) 0)) up.quiet ∧ up.quiet.Passes (.np k) (request (.np k) 0) 0 0
      ∧ up.quiet.active[(0 : WindowId)].branch.toNat = (0 : BranchId) ∧ up.quiet.branches[(0 : BranchId)].carries = true
      ∧ (∃ n : EntryId, up.quiet.entries[n] = .free) ∧ up.quiet.entryCount 1 < up.quiet.settings[(1 : Requester)].quota.toNat
      ∧ up.quiet.branches[(0 : BranchId)].queue.length < 16 :=
  ⟨offers _ rfl rfl (by decide), passesAt0 _ rfl rfl (by decide +kernel), by decide +kernel, by decide +kernel,
    ⟨0, by decide +kernel⟩, by decide +kernel, by decide +kernel⟩

/-- With 255 words in the queue one more fits. -/
theorem test_met_PostedWriteIsQueued :
    let s := upWith (fun br => { br with queue := [.posted { item .ready with length := 63 }, .posted { item .ready with length := 63 },
      .posted { item .ready with length := 63 }, .posted { item .ready with length := 63 }, .posted { item .ready with length := 3 }] })
    s.Offers (.memory .wrp (request .wrp 0)) s.quiet ∧ s.quiet.Passes .wrp (request .wrp 0) 0 0
      ∧ s.quiet.active[(0 : WindowId)].branch.toNat = (0 : BranchId) ∧ s.quiet.branches[(0 : BranchId)].carries = true
      ∧ s.quiet.branches[(0 : BranchId)].queue.length < 16
      ∧ queueWords s.quiet.branches[(0 : BranchId)].queue + (request .wrp 0).length.toNat ≤ 256 :=
  ⟨offers _ rfl rfl (by decide), passesAt0 _ rfl rfl (by decide +kernel), by decide +kernel, by decide +kernel, by decide +kernel,
    by decide +kernel⟩

theorem test_met_UnofferedPacketsChangeNothing :
    (trunkPacketOf (.abandon 1 2 0) = some (.abandon 1 2 0) ∧ ∀ u, ¬ State.reset.Offers (.abandon 1 2 0) u)
      ∧ targetPacketOf (.later 1 0 []) = some (1, .answer .later 0 []) ∧ ∀ u, ¬ up.OffersTarget 1 (.answer .later 0 []) u :=
  ⟨⟨rfl, fun _ h => absurd h.1 (by decide)⟩, rfl, fun _ h => absurd h.1 (by decide +kernel)⟩

/-- An MR of the class and index. -/
def readOf (c i : BitVec 8) (n : BitVec 6) : ManagementRequest :=
  { requester := 1, tag := 2, length := n, object := some (c, i), words := [] }

/-- A packet that waits at the trunk port is offered; another of its block, or one that waits behind it, is not. -/
theorem test_offers_oldest :
    let s : State := { up with trunk := { up.trunk with delivered := [.abandon 1 2 0, .abandon 1 4 0] } }
    (∃ u, s.Offers (.abandon 1 2 0) u) ∧ (∀ u, ¬ s.Offers (.abandon 1 3 0) u) ∧ ∀ u, ¬ s.Offers (.abandon 1 4 0) u := by
  have hn : ∀ t, ¬ LetsPass (.abandon 1 2 0) (.abandon 1 t 0) := by intro t; simp [LetsPass]
  refine ⟨⟨_, rfl, Or.inl ⟨[], [.abandon 1 4 0], rfl, by simp, rfl⟩⟩, ?_, ?_⟩
  · rintro u ⟨-, ⟨before, rest, h, hb, -⟩ | ⟨h, -, -⟩⟩
    · cases before with
      | nil => exact absurd (List.cons.inj h).1 (by decide)
      | cons q before => exact hn _ ((List.cons.inj h).1 ▸ (hb q List.mem_cons_self).2)
    · exact hn _ (h _ List.mem_cons_self).2
  · rintro u ⟨-, ⟨before, rest, h, hb, -⟩ | ⟨h, -, -⟩⟩
    · cases before with
      | nil => exact absurd (List.cons.inj h).1 (by decide)
      | cons q before => exact hn _ ((List.cons.inj h).1 ▸ (hb q List.mem_cons_self).2)
    · exact hn _ (h _ List.mem_cons_self).2

/-- `up` with an MW PART RESET delivered, and a packet after it. -/
def upResetWaits (p : TrunkPacket) : State :=
  { up with trunk := { up.trunk with delivered := [.managementWrite (objectRequest (write 0 [1, 0]) .part), p] } }

/-- R164: a request received after an MW PART RESET is answered when it is taken first, of either block; taken second, it is discarded. -/
theorem test_request_before_waiting_reset :
    answers (.read (request (.np .rd) 0)) (upResetWaits (.memory (.np .rd) (request (.np .rd) 0))) .deferred = true
      ∧ runs (.managementRead (readOf 1 0 4)) (upResetWaits (.managementRead (readOf 1 0 4)))
          (fun t => t.trunk.answers.length == 1 && t.trunk.delivered.length == 1) = true
      ∧ writes (.partReset (write 0 [1, 0])) (upResetWaits (.abandon 1 2 0))
          (fun t => t.trunk.delivered.isEmpty && t.resetCause == .managed) = true := by decide +kernel

theorem test_met_ManagementReadReturnsRecord :
    (up.Offers (.managementRead (readOf 9 15 8)) up.quiet ∧ ObjectClass.ofCode 9 = some .entry
        ∧ (readOf 9 15 8).length.toNat = recordLength .entry ∧ Object.find 9 15 = some (.entry 15))
      ∧ ObjectClass.ofCode 12 = some .part ∧ (readOf 12 0 2).length.toNat = recordLength .part ∧ Object.find 12 0 = some .part :=
  ⟨⟨offers _ rfl rfl (by decide), by decide, by decide, by decide⟩, by decide, by decide, by decide⟩

theorem logLaw_up : up.LogLaw ∧ upLogged.LogLaw := by
  constructor <;> (unfold State.LogLaw; decide +kernel)

theorem queueLaw_full : upQueueFull.QueueLaw ∧ upWordsFull.QueueLaw := by
  constructor <;> (unfold State.QueueLaw; decide +kernel)

theorem test_met_SettingsRecordsShowTheirFields : upLogged.LogLaw ∧ upQueueFull.QueueLaw ∧ upWordsFull.QueueLaw :=
  ⟨logLaw_up.2, queueLaw_full⟩

theorem test_met_FaultProbeEntryAlertRecordsShowTheirFields :
    (∃ f, upLogged.logs[(1 : Requester)].entries = [f] ∧ f.causes.held = some .ok ∧ f.branch = some 0 ∧ f.address = some 0
        ∧ f.object = none)
      ∧ upLogged.LogLaw ∧ upLogged.logs[(0 : Requester)].entries = []
      ∧ Probe.operation (.done .read 8 (.ok (some 1))) = some (.read, 8)
      ∧ Probe.operation (.pending (.write 1) 8) = some (.write 1, 8) ∧ up.entries[(0 : EntryId)] = .free
      ∧ (upHeld (.complete (result (some 1)))).entries[(15 : EntryId)] = .live (held (.complete (result (some 1))))
      ∧ (held .queued).attempts < 65536 ∧ (result none).timer ≠ 0 ∧ (∀ c, (held .queued).state ≠ .complete c)
      ∧ (∃ f : FaultEntry, f.causes.held = none ∧ f.branch = none ∧ f.window = none ∧ f.object = none ∧ f.address = none)
      ∧ up.branches[(0 : BranchId)].probe = .idle ∧ (∀ op a x, Probe.issued .read 8 ≠ .done op a x)
      ∧ (∀ w, Probe.done .read 8 .later ≠ .done .read 8 (.ok (some w))) ∧ (∀ x, FaultCauses.conflict ≠ .undelivered x)
      ∧ ∀ st, FaultCauses.conflict ≠ .uncollected st :=
  ⟨⟨_, rfl, rfl, rfl, rfl, rfl⟩, logLaw_up.2, by decide +kernel, rfl, rfl, by decide +kernel, rfl, by decide, by decide,
    fun _ h => (by cases h),
    ⟨{ causes := .conflict, requester := 0, kind := 1, tag := 0, address := none, object := none, branch := none, window := none,
       generation := 0 }, rfl, rfl, rfl, rfl, rfl⟩,
    by decide +kernel, fun _ _ _ h => (by cases h), fun _ h => (by cases h), fun _ h => (by cases h), fun _ h => (by cases h)⟩

theorem test_met_ManagementRefusalsFollowCheckOrder :
    trunkPacketOf (.winStagedWrite (write 32 [])) = some (.managementWrite (objectRequest (write 32 []) .winStaged))
      ∧ up.Offers (.managementRead (readOf 9 16 8)) up.quiet ∧ up.Offers (.managementWrite (readOf 9 15 8)) up.quiet
      ∧ (readOf 9 16 7).length.toNat ≠ recordLength .entry ∧ (readOf 9 16 8).length.toNat = recordLength .entry
      ∧ Object.find 9 16 = none ∧ ObjectClass.ofCode 13 = none ∧ Object.find 13 0 = none
      ∧ Object.find 1 0 = some .ident ∧ Object.find 10 0 = some .alert
      ∧ upLogged.Offers (.managementWrite (objectRequest (write 0 [0, 0]) .alert)) upLogged.quiet
      ∧ upLogged.quiet.settings[(0 : Requester)].manager = false
      ∧ (up.Offers (.managementWrite (objectRequest (write 0 [2, 0]) .part)) up.quiet
        ∧ up.quiet.settings[(0 : Requester)].manager = true ∧ Object.find 12 0 = some .part ∧ actionOf [2, 0] ≠ 1)
      ∧ up.Offers (.managementWrite (objectRequest (write 3 [3, 0, 0, 0]) .probe)) up.quiet ∧ Object.find 8 3 = some (.probe 3)
      ∧ bits (wordAt [3, 0, 0, 0] 0) 0 2 ≠ 1 ∧ bits (wordAt [3, 0, 0, 0] 0) 0 2 ≠ 2
      ∧ up.quiet.branches[(3 : BranchId)].probe = .idle :=
  ⟨rfl, offers _ rfl rfl (by decide), offers _ rfl rfl (by decide), by decide, by decide, by decide, by decide, by decide, by decide,
    by decide, offers _ rfl rfl (by decide), by decide +kernel,
    ⟨offers _ rfl rfl (by decide), by decide +kernel, by decide, by decide⟩, offers _ rfl rfl (by decide), by decide, by decide,
    by decide, by decide +kernel⟩

/-- The premises of an MW with `n` words from requester 0, in a state where requester 0 is a manager. -/
theorem met_write {s : State} (c : ObjectClass) {i : BitVec 8} {ws : List Word} {n : Nat} (h : s.trunk.link.up = true)
    (hd : s.trunk.delivered = []) (ha : s.trunk.answers.length < 32) (hn : ws.length = n) (hb : n < 64)
    (hm : s.settings[(0 : Requester)].manager = true) : s.Writes (write i ws) c n s.quiet := by
  refine writesOf c h hd ha ?_ hn hm
  show (BitVec.ofNat 6 ws.length).toNat = n
  rw [BitVec.toNat_ofNat, hn]
  exact Nat.mod_eq_of_lt hb

theorem test_met_WindowRecordIsStaged :
    (up.Writes (write 31 [0xC0000005, 5, 0, 0]) .winStaged 4 up.quiet ∧ (write 31 [0xC0000005, 5, 0, 0]).index.toNat = (31 : WindowId)
        ∧ ¬ ((Window.ofWords [0xC0000005, 5, 0, 0]).limit < (Window.ofWords [0xC0000005, 5, 0, 0]).base)
        ∧ ¬ 4 < (Window.ofWords [0xC0000005, 5, 0, 0]).branch ∧ up.quiet.controller = .idle)
      ∧ (Window.ofWords [0x80000006, 5, 0, 0]).limit < (Window.ofWords [0x80000006, 5, 0, 0]).base
      ∧ 4 < (Window.ofWords [0xD0000005, 5, 0, 0]).branch ∧ (Window.ofWords [0xD0000005, 5, 0, 0]).valid = true
      ∧ draining.Writes (write 31 [0xC0000005, 5, 0, 0]) .winStaged 4 draining.quiet ∧ draining.quiet.controller ≠ .idle :=
  ⟨⟨met_write _ rfl rfl (by decide) rfl (by decide) (by decide +kernel), rfl, by decide, by decide, rfl⟩, by decide, by decide,
    by decide, met_write _ rfl rfl (by decide) rfl (by decide) (by decide +kernel), by decide⟩

/-- The premises of an MW of COMMIT whose row names an action. -/
theorem met_commit {s : State} (v : BitVec 4) (h : s.trunk.link.up = true) (hd : s.trunk.delivered = [])
    (ha : s.trunk.answers.length < 32) (hm : s.settings[(0 : Requester)].manager = true) :
    s.Writes (objectWithField (write 0 [0, 0]) 0 0 4 v) .commit 2 s.quiet := by
  refine writesOf .commit h hd ha (show (2 : BitVec 6).toNat = 2 by decide) ?_ hm
  simp [objectWithField, withField, write]

theorem test_met_ImmediateAndDrainCommit :
    (write 0 [0, 0]).index = 0
      ∧ (up.Writes (objectWithField (write 0 [0, 0]) 0 0 4 1) .commit 2 up.quiet ∧ up.quiet.controller = .idle)
      ∧ (draining.Writes (objectWithField (write 0 [0, 0]) 0 0 4 1) .commit 2 draining.quiet ∧ draining.quiet.controller ≠ .idle)
      ∧ (up.Writes (objectWithField (write 0 [0, 0]) 0 0 4 2) .commit 2 up.quiet ∧ up.quiet.drained = true)
      ∧ (upHeld .queued).Writes (objectWithField (write 0 [0, 0]) 0 0 4 2) .commit 2 (upHeld .queued).quiet
      ∧ (upHeld .queued).quiet.controller = .idle ∧ (upHeld .queued).quiet.drained = false
      ∧ draining.Writes (objectWithField (write 0 [0, 0]) 0 0 4 2) .commit 2 draining.quiet :=
  ⟨rfl, ⟨met_commit 1 rfl rfl (by decide) (by decide +kernel), rfl⟩, ⟨met_commit 1 rfl rfl (by decide) (by decide +kernel), by decide⟩,
    ⟨met_commit 2 rfl rfl (by decide) (by decide +kernel), by decide +kernel⟩, met_commit 2 rfl rfl (by decide) (by decide +kernel), rfl,
    by decide +kernel, met_commit 2 rfl rfl (by decide) (by decide +kernel)⟩

theorem test_met_CancelEndsDrain :
    draining.Writes (objectWithField (write 0 [0, 0]) 0 0 4 3) .commit 2 draining.quiet ∧ draining.quiet.controller ≠ .idle
      ∧ up.Writes (objectWithField (write 0 [0, 0]) 0 0 4 3) .commit 2 up.quiet ∧ up.quiet.controller = .idle
      ∧ (write 0 [0, 0]).index = 0 :=
  ⟨met_commit 3 rfl rfl (by decide) (by decide +kernel), by decide, met_commit 3 rfl rfl (by decide) (by decide +kernel), rfl, rfl⟩

theorem test_met_RevertCopiesActiveIntoStaged :
    draining.Writes (objectWithField (write 0 [0, 0]) 0 0 4 4) .commit 2 draining.quiet ∧ draining.quiet.controller ≠ .idle
      ∧ up.Writes (objectWithField (write 0 [0, 0]) 0 0 4 4) .commit 2 up.quiet ∧ up.quiet.controller = .idle
      ∧ draining.Writes (write 0 [5, 0]) .commit 2 draining.quiet ∧ up.Writes (write 0 [0, 0]) .commit 2 up.quiet
      ∧ actionOf [5, 0] ∉ ([1, 2, 3, 4] : List (BitVec 4)) ∧ actionOf [0, 0] ∉ ([1, 2, 3, 4] : List (BitVec 4)) :=
  ⟨met_commit 4 rfl rfl (by decide) (by decide +kernel), by decide, met_commit 4 rfl rfl (by decide) (by decide +kernel), rfl,
    met_write _ rfl rfl (by decide) rfl (by decide) (by decide +kernel), met_write _ rfl rfl (by decide) rfl (by decide) (by decide +kernel),
    by decide, by decide⟩

/-- `up` with requester 0 the only manager. -/
def upOneManager : State :=
  { up with
    settings := (Vector.replicate 32 { quota := 2, strict := true, manager := false }).set 0
      { quota := 2, strict := true, manager := true } }

theorem test_met_RequesterAndTimingSettingsAreWritten :
    (up.Writes (write 31 [16, 0]) .req 2 up.quiet ∧ (write 31 [16, 0]).index.toNat = (31 : Requester) ∧ ¬ 16 < bits (16 : Word) 0 5
        ∧ up.quiet.settings[(0 : Requester)].manager = true)
      ∧ (up.Writes (write 31 [17, 0]) .req 2 up.quiet ∧ 16 < bits (17 : Word) 0 5)
      ∧ (upOneManager.Writes (write 0 [2, 0]) .req 2 upOneManager.quiet ∧ bit (2 : Word) 9 = false
        ∧ upOneManager.quiet.settings[(0 : Requester)].manager = true
        ∧ ∀ x : Requester, x ≠ 0 → upOneManager.quiet.settings[x].manager = false)
      ∧ (up.Writes (write 0 [65535, 1]) .timing 2 up.quiet ∧ bits (65535 : Word) 0 16 ≠ 0 ∧ bits (1 : Word) 0 16 ≠ 0)
      ∧ up.Writes (write 0 [65536, 1]) .timing 2 up.quiet ∧ bits (65536 : Word) 0 16 = 0 :=
  ⟨⟨met_write _ rfl rfl (by decide) rfl (by decide) (by decide +kernel), rfl, by decide, by decide +kernel⟩,
    ⟨met_write _ rfl rfl (by decide) rfl (by decide) (by decide +kernel), by decide⟩,
    ⟨met_write _ rfl rfl (by decide) rfl (by decide) (by decide +kernel), by decide, by decide +kernel, by decide +kernel⟩,
    ⟨met_write _ rfl rfl (by decide) rfl (by decide) (by decide +kernel), by decide, by decide⟩,
    met_write _ rfl rfl (by decide) rfl (by decide) (by decide +kernel), by decide⟩

theorem test_met_TakeRemovesOldestFault :
    up.Writes (objectWithField (write 31 [0x100, 0, 0, 0]) 0 0 4 1) .fault 4 up.quiet
      ∧ (write 31 [0x100, 0, 0, 0]).index.toNat = (31 : Requester) :=
  ⟨writesOf _ rfl rfl (by decide) (by decide) (by decide) (by decide +kernel), rfl⟩

/-- The settings of `branchRecord` after reset, with the lowest or the highest watermark, or with a value out of range. -/
theorem test_met_BranchSettingsAndFlagsAreStored :
    (∀ ws ∈ [[(0x40040400 : Word), 0x1001, 0, 0], [0x01010001, 0x1010, 0, 0]],
        (BranchSettings.ofWords ws).reset = false ∧ ¬ (BranchSettings.ofWords ws).OutOfRange)
      ∧ (∀ ws ∈ [[(0x40040400 : Word), 0x11, 0, 0], [0x00040400, 1, 0, 0], [0x40000400, 1, 0, 0], [0x40040000, 1, 0, 0], [0x40040400, 0, 0, 0]],
        (BranchSettings.ofWords ws).OutOfRange)
      ∧ up.Writes (write 3 [0x40040400, 0x1001, 0, 0]) .branch 4 up.quiet
      ∧ up.Writes (objectWithField (write 3 [0x40040400, 0x1001, 0, 0]) 1 16 1 1) .branch 4 up.quiet
      ∧ up.Writes (objectWithField (write 3 [0x40040400, 0x1001, 0, 0]) 1 16 1 0) .branch 4 up.quiet
      ∧ up.Writes (objectWithField (write 3 [0x40040400, 0x1001, 0, 0]) 1 17 1 1) .branch 4 up.quiet
      ∧ up.Writes (objectWithField (write 3 [0x40040400, 0x1001, 0, 0]) 1 17 1 0) .branch 4 up.quiet
      ∧ (write 3 [0x40040400, 0x1001, 0, 0]).index.toNat = (3 : BranchId)
      ∧ (upWith (fun br => { br with reset := true, link := LinkPort.fresh })).quiet.branches[(0 : BranchId)].reset = true := by
  refine ⟨by decide, by decide, met_write _ rfl rfl (by decide) rfl (by decide) (by decide +kernel), ?_, ?_, ?_, ?_, rfl,
    by decide +kernel⟩ <;>
    exact writesOf _ rfl rfl (by decide) (by decide) (by decide) (by decide +kernel)

/-- A record that sets the reset flag, by each of the four rows. -/
theorem test_met_ResetFlagSetStopsBranch :
    (let m := write 0 [0x40040400, 0x21001, 0, 0];
      WritesBranch (.branchSettingsWrite m) m m false true ∧ WritesBranch (.holdFlagSet m) m (objectWithField m 1 16 1 1) true true
        ∧ WritesBranch (.holdFlagCleared m) m (objectWithField m 1 16 1 0) false true
        ∧ WritesBranch (.resetFlagSet m) m (objectWithField m 1 17 1 1) false true
        ∧ ¬ (BranchSettings.ofWords m.words).OutOfRange ∧ m.index.toNat = (0 : BranchId)
        ∧ up.Writes m .branch 4 up.quiet ∧ up.Writes (objectWithField m 1 16 1 1) .branch 4 up.quiet
        ∧ up.Writes (objectWithField m 1 17 1 1) .branch 4 up.quiet)
      ∧ up.quiet.branches[(0 : BranchId)].reset = false ∧ up.quiet.branches[(0 : BranchId)].link.up = true
      ∧ up.quiet.branches[(1 : BranchId)].reset = false ∧ up.quiet.branches[(1 : BranchId)].link.up = false :=
  ⟨⟨Or.inl ⟨rfl, rfl, rfl, rfl⟩, Or.inr (Or.inl ⟨rfl, rfl, rfl, rfl⟩), Or.inr (Or.inr (Or.inl ⟨rfl, rfl, rfl, rfl⟩)),
      Or.inr (Or.inr (Or.inr (Or.inl ⟨rfl, rfl, rfl, rfl⟩))), by decide, rfl,
      writesOf _ rfl rfl (by decide) (by decide) (by decide) (by decide +kernel),
      writesOf _ rfl rfl (by decide) (by decide) (by decide) (by decide +kernel),
      writesOf _ rfl rfl (by decide) (by decide) (by decide) (by decide +kernel)⟩,
    by decide +kernel, by decide +kernel, by decide +kernel, by decide +kernel⟩

theorem test_met_ProbeStartsOrIsRefused :
    up.Writes (objectWithField (write 0 [0, 0, 4, 9]) 0 0 2 1) .probe 4 up.quiet
      ∧ up.Writes (objectWithField (write 0 [0, 0, 4, 9]) 0 0 2 2) .probe 4 up.quiet
      ∧ (write 0 [0, 0, 4, 9]).index.toNat = (0 : BranchId) ∧ (addressOf 0 4).toNat % 4 = 0 ∧ (addressOf 0 5).toNat % 4 ≠ 0
      ∧ up.quiet.branches[(0 : BranchId)].probe = .idle
      ∧ (upWith (fun br => { br with probe := .pending .read 0 })).quiet.branches[(0 : BranchId)].probe = .pending .read 0 :=
  ⟨writesOf _ rfl rfl (by decide) (by decide) (by decide) (by decide +kernel),
    writesOf _ rfl rfl (by decide) (by decide) (by decide) (by decide +kernel), rfl, by decide, by decide, by decide +kernel,
    by decide +kernel⟩

theorem test_met_AlertWriteFollowsItsThreeParts :
    up.Writes (write 0 [0x003F1F3F, 0]) .alert 2 up.quiet ∧ (write 0 [0x003F1F3F, 0]).index = 0
      ∧ upQueueFull.Writes (write 0 [0x00080000, 0]) .alert 2 upQueueFull.quiet ∧ bit (0x00080000 : Word) 19 = true
      ∧ upQueueFull.quiet.branches[(0 : BranchId)].level = true :=
  ⟨met_write _ rfl rfl (by decide) rfl (by decide) (by decide +kernel), rfl,
    met_write _ rfl rfl (by decide) rfl (by decide) (by decide +kernel), by decide, by decide +kernel⟩

theorem test_met_AcknowledgeAndEnableFollowTheirRules :
    AlertClass.fresh.raised = none ∧ State.reset.alerts.restart.raised = some 2
      ∧ ((up.putAlert .level { enabled := false, raised := some 1, marker := .none }).alerts.get .level)
        = { enabled := false, raised := some 1, marker := .none }
      ∧ ((up.putAlert .level { enabled := false, raised := some 1, marker := .queuedOwed }).alerts.get .level).marker ≠ .none :=
  ⟨rfl, rfl, rfl, by decide⟩

/-- The premises of the five clauses of EngineIssuesFirstEligibleSource: an ACTIVE branch with a PENDING probe; with a slot entry whose
interval has passed; with a READY head beside a slot entry whose interval runs; with a reference at the head; and nothing to issue. -/
theorem test_met_EngineIssuesFirstEligibleSource :
    (let br := (upWith (fun br => { br with hold := true, probe := .pending .read 0 })).branches[(0 : BranchId)];
      br.outstanding = none ∧ br.link.up = true ∧ br.reset = false ∧ br.probe = .pending .read 0)
      ∧ (let s := (upHeld .waiting).modBranch 0 (fun br => { br with slot := some { entry := 15, interval := 4, passed := true } });
        s.branches[(0 : BranchId)].slot = some { entry := 15, interval := 4, passed := true } ∧ s.branches[(0 : BranchId)].hold = false
          ∧ s.branches[(0 : BranchId)].probe = .idle ∧ s.branches[(0 : BranchId)].outstanding = none
          ∧ s.entries[(15 : EntryId)] = .live (held .waiting))
      ∧ (let br := (upWith (fun br => { br with queue := [.posted (item .ready)], slot := some { entry := 15, interval := 4, passed := false } })).branches[(0 : BranchId)];
        br.queue = [.posted (item .ready)] ∧ br.slot = some { entry := 15, interval := 4, passed := false } ∧ br.outstanding = none
          ∧ (item .ready).state = .ready)
      ∧ (let s := (upHeld .queued).modBranch 0 (fun br => { br with queue := [.ref 15] });
        s.branches[(0 : BranchId)].queue = [.ref 15] ∧ s.branches[(0 : BranchId)].slot = none
          ∧ s.entries[(15 : EntryId)] = .live (held .queued))
      ∧ up.branches[(0 : BranchId)].queue = [] ∧ up.branches[(0 : BranchId)].probe = .idle
      ∧ up.branches[(0 : BranchId)].slot = none ∧ up.branches[(1 : BranchId)].link.up = false := by decide +kernel

/-- DONE, LATER, REFUSE and RESPONSE_TIMEOUT end the issue of entry 15, whether ISSUED or DISOWNED. -/
theorem test_met_EntryIssueEndsByAnswerOrTimeout :
    (∀ st ∈ [EntryState.issued, .disowned],
        (upOut st).EndsIssue 0 (.done 0 1 [5]) (.done [5]) 1 (upOut st).quiet
          ∧ (upOut st).EndsIssue 0 (.later 0 0 []) .later 1 (upOut st).quiet
          ∧ (upOut st).EndsIssue 0 (.refuse 0 0 []) .refuse 1 (upOut st).quiet
          ∧ (upOut st).EndsIssue 0 (.responseTimeout 0) .timeout 1 (upOut st).quiet
          ∧ (upOut st).quiet.branches[(0 : BranchId)].outstanding = some (.entry 15)
          ∧ (upOut st).quiet.entries[(15 : EntryId)] = .live (held st))
      ∧ (held .issued).req.length.toNat = 1
      ∧ (held .issued).attempts < (upOut .issued).quiet.branches[(0 : BranchId)].budget.toNat
      ∧ ¬ ({ held .issued with attempts := 1024 } : LiveEntry).attempts < (upOut .issued).quiet.branches[(0 : BranchId)].budget.toNat := by
  refine ⟨?_, by decide, by decide +kernel, by decide +kernel⟩
  intro st h
  have h0 : ∀ p, (upOut st).OffersTarget 0 p (upOut st).quiet := fun p => offersTarget p rfl rfl rfl (show 0 < 16 by decide)
  exact ⟨Or.inl ⟨1, [5], rfl, rfl, rfl, rfl, h0 _⟩, Or.inr (Or.inl ⟨rfl, rfl, h0 _⟩), Or.inr (Or.inr (Or.inl ⟨rfl, rfl, h0 _⟩)),
    Or.inr (Or.inr (Or.inr ⟨rfl, rfl, rfl, rfl⟩)), rfl, rfl⟩

/-- A queue of notices with one of branch 0 behind one of it and before one of branch 1; and one without any of branch 2. -/
theorem test_met_EntryIssueEndsByAnswerOrTimeout_fence :
    (∃ s : State, s.notices
        = [{ seq := 1, source := .target 0 0, dest := 0, payload := [] }] ++ { seq := 2, source := .target 0 7, dest := 0, payload := [] }
          :: [{ seq := 3, source := .target 1 0, dest := 0, payload := [] }] ∧ s.youngestFrom 0 = some 2 ∧ s.youngestFrom 2 = none)
      ∧ ∀ n ∈ up.notices, ∀ code, n.source ≠ .target 2 code :=
  ⟨⟨{ up with notices := [{ seq := 1, source := .target 0 0, dest := 0, payload := [] },
      { seq := 2, source := .target 0 7, dest := 0, payload := [] }, { seq := 3, source := .target 1 0, dest := 0, payload := [] }] },
    rfl, by decide, by decide⟩, by decide⟩

/-- `up` with a SENT posted item outstanding on branch 0. -/
def upSent : State :=
  upWith (fun br => { br with queue := [.posted (item .sent)], outstanding := some .posted, responseTimer := some 64 })

theorem test_met_PostedIssueEndsByAnswerOrTimeout :
    upSent.EndsIssue 0 (.done 0 0 []) (.done []) 0 upSent.quiet ∧ upSent.EndsIssue 0 (.later 0 0 []) .later 0 upSent.quiet
      ∧ upSent.EndsIssue 0 (.refuse 0 0 []) .refuse 0 upSent.quiet ∧ upSent.EndsIssue 0 (.responseTimeout 0) .timeout 0 upSent.quiet
      ∧ upSent.quiet.branches[(0 : BranchId)].outstanding = some .posted
      ∧ upSent.quiet.branches[(0 : BranchId)].queue = [.posted (item .sent)]
      ∧ (item .sent).attempts < upSent.quiet.branches[(0 : BranchId)].budget.toNat := by
  have h0 : ∀ p, upSent.OffersTarget 0 p upSent.quiet := fun p => offersTarget p rfl rfl rfl (by decide)
  exact ⟨Or.inl ⟨0, [], rfl, rfl, rfl, rfl, h0 _⟩, Or.inr (Or.inl ⟨rfl, rfl, h0 _⟩), Or.inr (Or.inr (Or.inl ⟨rfl, rfl, h0 _⟩)),
    Or.inr (Or.inr (Or.inr ⟨rfl, rfl, rfl, rfl⟩)), rfl, rfl, by decide +kernel⟩

/-- `up` with an ISSUED READ probe outstanding on branch 0. -/
def upProbe : State := upWith (fun br => { br with probe := .issued .read 8, outstanding := some .probe, responseTimer := some 64 })

theorem test_met_ProbeIssueEndsByAnswerOrTimeout :
    upProbe.EndsIssue 0 (.done 0 1 [5]) (.done [5]) 1 upProbe.quiet ∧ upProbe.EndsIssue 0 (.later 0 0 []) .later 1 upProbe.quiet
      ∧ upProbe.EndsIssue 0 (.refuse 0 0 []) .refuse 1 upProbe.quiet ∧ upProbe.EndsIssue 0 (.responseTimeout 0) .timeout 1 upProbe.quiet
      ∧ upProbe.quiet.branches[(0 : BranchId)].outstanding = some .probe
      ∧ upProbe.quiet.branches[(0 : BranchId)].probe = .issued .read 8 := by
  have h0 : ∀ p, upProbe.OffersTarget 0 p upProbe.quiet := fun p => offersTarget p rfl rfl rfl (by decide)
  exact ⟨Or.inl ⟨1, [5], rfl, rfl, rfl, rfl, h0 _⟩, Or.inr (Or.inl ⟨rfl, rfl, h0 _⟩), Or.inr (Or.inr (Or.inl ⟨rfl, rfl, h0 _⟩)),
    Or.inr (Or.inr (Or.inr ⟨rfl, rfl, rfl, rfl⟩)), rfl, rfl⟩

/-- A stray kind; an answer with nothing outstanding; a DONE of no words to a request of one, and a LATER with a word. -/
theorem test_met_StrayPacketsAreDiscarded :
    up.OffersTarget 0 (.other 0x20) up.quiet
      ∧ (up.OffersTarget 0 (.answer .refuse 0 []) up.quiet ∧ up.quiet.branches[(0 : BranchId)].outstanding = none)
      ∧ (upProbe.OffersTarget 0 (.answer .done 0 []) upProbe.quiet
        ∧ upProbe.quiet.branches[(0 : BranchId)].outstanding = some .probe ∧ (0 : BitVec 6).toNat ≠ upProbe.quiet.doneWords 0 .probe)
      ∧ upProbe.OffersTarget 0 (.answer .later 1 [5]) upProbe.quiet ∧ up.branches[(0 : BranchId)].outstanding = none :=
  ⟨offersTarget _ rfl rfl rfl (by decide), ⟨offersTarget _ rfl rfl rfl (by decide), rfl⟩,
    ⟨offersTarget _ rfl rfl rfl (by decide), rfl, by decide +kernel⟩, offersTarget _ rfl rfl rfl (by decide), rfl⟩

theorem test_met_CardNoticeIsTakenOrRefused :
    (up.OffersTarget 0 (.notice 4 0 [1, 2, 3, 4]) up.quiet ∧ (4 : BitVec 3).toNat ≤ 4 ∧ up.quiet.targetCount < 26)
      ∧ (let s : State := { up with notices := List.replicate 26 { seq := 0, source := .target 0 0, dest := 0, payload := [] } };
        s.OffersTarget 0 (.notice 0 0 []) s.quiet ∧ 26 ≤ s.quiet.targetCount)
      ∧ up.OffersTarget 0 (.notice 5 0 [1, 2, 3, 4, 5]) up.quiet ∧ ¬ (5 : BitVec 3).toNat ≤ 4
      ∧ up.OffersTarget 0 (.notice 1 0 []) up.quiet ∧ (1 : BitVec 3).toNat ≠ ([] : List Word).length :=
  ⟨⟨offersTarget _ rfl rfl rfl (by decide), by decide, by decide +kernel⟩,
    ⟨offersTarget _ rfl rfl rfl (by decide), by decide +kernel⟩, offersTarget _ rfl rfl rfl (by decide), by decide,
    offersTarget _ rfl rfl rfl (by decide), by decide⟩

theorem test_met_IntervalsAndCollectionTimersRunOut :
    ((upWith (fun br => { br with slot := some { entry := 0, interval := 4, passed := false } })).branches[(0 : BranchId)].slot
        = some { entry := 0, interval := 4, passed := false })
      ∧ up.branches[(0 : BranchId)].slot = none
      ∧ ((upWith (fun br => { br with queue := [.posted (item (.backoff 4))] })).branches[(0 : BranchId)].queue
        = [.posted (item (.backoff 4))])
      ∧ up.branches[(0 : BranchId)].queue = []
      ∧ (upHeld (.complete (result none))).entries[(15 : EntryId)] = .live (held (.complete (result none)))
      ∧ up.entries[(0 : EntryId)] = .free := by decide +kernel

theorem test_met_DrainTimerEndsDrain : draining.controller ≠ .idle ∧ up.controller = .idle := by decide

/-- An answer to send; a target notice at the head; an alert notice whose class owes another, and one whose class does not; nothing to
send; and a port that is DOWN, or whose replay list is full. -/
theorem test_met_TrunkSendsAnswersBeforeNotices :
    ((held (.complete (result (some 9)))).state = .complete (result (some 9)) ∧ (held (.complete (result (some 9)))).req.branch = 0
        ∧ (result (some 9)).fence = some 9 ∧ (result (some 8)).fence ≠ some 9) ∧
    (up.trunk.link.up = true ∧ up.trunk.link.replay.length < 16)
      ∧ (∃ s : State, s.trunk.answers = [{ requester := 0, tag := 0, body := .taken }])
      ∧ (∃ s : State, s.notices = [{ seq := 0, source := .target 0 0, dest := 0, payload := [] }] ∧ s.trunk.answers = [])
      ∧ (up.notices = [{ seq := 0, source := .alert .restart, dest := 0, payload := [2] }]
        ∧ (up.putAlert .restart { enabled := true, raised := some 2, marker := .queuedOwed }).alerts.get .restart
          = { enabled := true, raised := some 2, marker := .queuedOwed }
        ∧ (up.alerts.get .restart).marker ≠ .queuedOwed)
      ∧ State.cleared.notices = [] ∧ State.cleared.trunk.answers = [] ∧ State.reset.trunk.link.up = false :=
  ⟨⟨rfl, rfl, rfl, by decide⟩, by decide, ⟨{ up with trunk := { up.trunk with answers := [{ requester := 0, tag := 0, body := .taken }] } }, rfl⟩,
    ⟨{ up with notices := [{ seq := 0, source := .target 0 0, dest := 0, payload := [] }] }, rfl, rfl⟩, ⟨rfl, rfl, by decide⟩, rfl, rfl,
    rfl⟩

/-- Boundary distances between the expected number and a frame's: 0, 1, 16, 17 and 255; and ports with and without a place. -/
theorem test_met_DataFramesAreDeliveredInOrder :
    (up.link .trunk).up = true ∧ up.trunk.answers.length + up.trunk.delivered.length < 32
      ∧ up.branches[(0 : BranchId)].noticePlaces < 16
      ∧ (let s : State := { up with trunk := { up.trunk with delivered := List.replicate 32 (.abandon 0 0 0) } };
        32 ≤ s.trunk.answers.length + s.trunk.delivered.length)
      ∧ 16 ≤ (upWith (fun br => { br with toSend := List.replicate 16 (.noticeAnswer true) })).branches[(0 : BranchId)].noticePlaces
      ∧ ((0 : BitVec 8) - 255).toNat = 1 ∧ ((0 : BitVec 8) - 240).toNat = 16 ∧ ((0 : BitVec 8) - 239).toNat = 17
      ∧ ((0 : BitVec 8) - 1).toNat = 255 ∧ (up.link (.branch 1)).up = false := by decide +kernel

theorem test_met_AckAndResendUseReplayList :
    (upReplay.link .trunk).up = true ∧ (upReplay.link .trunk).replay = [(254, [1])] ++ (255, [2]) :: []
      ∧ (∀ f ∈ [((254 : BitVec 8), [(1 : Word)])], f.1 ≠ 255) ∧ (∀ f ∈ (upReplay.link .trunk).replay, f.1 ≠ 0)
      ∧ (up.link (.branch 1)).up = false := by decide +kernel

theorem test_met_TrainingBringsPortUp :
    (up.link .trunk).up = true ∧ (up.link (.branch 1)).up = false ∧ up.branches[(1 : BranchId)].reset = false
      ∧ (let s := up.modBranch 1 (fun br => { br with reset := true });
        (s.link (.branch 1)).up = false ∧ s.branches[(1 : BranchId)].reset = true) := by decide +kernel

theorem test_met_CheckFailuresAreCounted :
    Frame.ofWords [] = none ∧ Frame.ofWords [0x20000500, 0] = none ∧ Frame.ofWords [0x20000500, 0x452F8400] = some (.ack 5)
      ∧ 40 < (List.replicate 41 (0 : Word)).length ∧ (up.link .trunk).up = true
      ∧ (up.link .trunk).checkFailures + 1 < 8
      ∧ 8 ≤ (upWith (fun br => { br with link := { br.link with checkFailures := 7 } })).branches[(0 : BranchId)].link.checkFailures + 1
      ∧ (up.link (.branch 1)).up = false := by decide +kernel

theorem test_met_AckTimerResendsOrLosesLink :
    (upReplay.link .trunk).up = true ∧ (upReplay.link .trunk).ackTimer = true ∧ (upReplay.link .trunk).resendRounds < 4
      ∧ 4 ≤ ((upReplay.setLink .trunk { upReplay.trunk.link with resendRounds := 4 }).link .trunk).resendRounds
      ∧ (up.link .trunk).ackTimer = false := by decide

/-- A step from `up`, whose queue of commands is empty, gives a next state; the laws below hold in `up` or in a state near it. -/
theorem test_met_step : step up = .next up ∧ step (upHeld (.complete (result (some 1)))) = .next (upHeld (.complete (result (some 1)))) :=
  ⟨rfl, rfl⟩

theorem test_met_WindowAndManagerLawsAreKept : up.WindowLaw ∧ up.ManagerLaw := by
  refine ⟨?_, ⟨0, by decide +kernel⟩⟩
  unfold State.WindowLaw
  decide +kernel

theorem test_met_PairLawIsKept : (upHeld .queued).quiet.PairLaw := pairLaw_upHeld _ (Or.inl rfl)

theorem test_met_QueueLawIsKept : upQueueFull.QueueLaw ∧ upWordsFull.QueueLaw := queueLaw_full

theorem test_met_NoticeLawIsKept : up.NoticeLaw := by
  unfold State.NoticeLaw
  decide +kernel

/-- `up` with a COMPLETE entry whose fence names a notice of its branch. -/
def upFenced : State :=
  { upHeld (.complete (result (some 1))) with
    notices := up.notices ++ [{ seq := 1, source := .target 0 0, dest := 0, payload := [] }], nextSeq := 2 }

theorem test_met_FenceLawIsKept : upFenced.FenceLaw ∧ upFenced.entries[(15 : EntryId)].fenceOf = some (0, 1) := by
  have key : ∀ n : EntryId, upFenced.entries[n].fenceOf = none ∨ upFenced.entries[n].fenceOf = some (0, 1) := by decide +kernel
  refine ⟨fun n x hx => ?_, rfl⟩
  rcases key n with h | h
  · rw [h] at hx; cases hx
  · rw [h] at hx
    cases hx
    exact ⟨{ seq := 1, source := .target 0 0, dest := 0, payload := [] }, List.mem_append_right _ (List.mem_singleton.2 rfl), rfl, rfl⟩

theorem test_met_LogSettingsAndLevelLawsAreKept : upLogged.LogLaw ∧ upQueueFull.SettingsLaw ∧ upQueueFull.LevelLaw := by
  refine ⟨logLaw_up.2, ?_, ?_⟩
  · unfold State.SettingsLaw; decide +kernel
  · unfold State.LevelLaw; decide +kernel

/-- `upSent` with entry 15 WAITING in branch 2's slot and the controller DRAINING. -/
def upBusy : State :=
  ({ upSent with controller := .draining 4096 } : State).modBranch 2
      (fun br => { br with slot := some { entry := 15, interval := 4, passed := false } })
    |>.setEntry 15 (.live { held .waiting with req := { (held .waiting).req with branch := 2 } })

theorem test_met_PlacesOfWorkAreKept :
    upBusy.EntryPlaces ∧ upBusy.EngineLaw ∧ upBusy.DownLaw ∧ upBusy.TrunkDownLaw ∧ upBusy.DrainLaw ∧ upBusy.draining = true := by
  refine ⟨?_, ?_, ?_, fun h => absurd h (by decide), fun _ => by decide +kernel, rfl⟩
  · unfold State.EntryPlaces; decide +kernel
  · unfold State.EngineLaw; decide +kernel
  · unfold State.DownLaw; decide +kernel

theorem test_met_PortLawIsKept : upReplay.PortLaw := by
  unfold State.PortLaw
  decide +kernel

theorem test_met_PacketsReadBack :
    (request (.np .wrn) 0xFFFFFFFFFF).wellFormed = true ∧ ({ request .wrp 0 with address := none, data := [] } : MemoryRequest).wellFormed = true
      ∧ (readOf 9 15 8).wellFormed = true ∧ requestKind 0x00 = false ∧ requestKind 0x08 = false
      ∧ (TargetPacket.answer .done 1 [5]).wellFormed = true ∧ (TargetPacket.notice 4 0 [1, 2, 3, 4]).wellFormed = true
      ∧ (TargetPacket.other 0x2C).wellFormed = true
      ∧ ({ requester := 31, tag := 15, body := .completion .ok (List.replicate 32 0) } : Answer).body
        = .completion .ok (List.replicate 32 0) ∧ (held .queued).req.kind = .rd ∧ (List.replicate 32 (0 : Word)).length < 64 := by decide

theorem test_met_FramesReadBack :
    1 ≤ (List.replicate 1 (0 : Word)).length ∧ (List.replicate 40 (0 : Word)).length ≤ 40 := by decide

end Sys2Proof.Tests
end

namespace Sys2Proof.Machine

/-! The parts of the state that the ordinary events leave alone: one lemma for each operation, in the order of the model. -/

/-! ### What the ordinary events leave alone -/

/-- The parts of the state that only management writes, swaps of the window banks and resets change, and the queue of commands. -/
structure Background where
  staged : Vector Window 32
  active : Vector Window 32
  settings : Vector RequesterSettings 32
  alertDest : Requester
  collectionLimit : BitVec 16
  drainLimit : BitVec 16
  resetCause : ResetCause
  pending : List Instr

/-- The background of a state. -/
def State.background (s : State) : Background :=
  { staged := s.staged, active := s.active, settings := s.settings, alertDest := s.alertDest
    collectionLimit := s.collectionLimit, drainLimit := s.drainLimit, resetCause := s.resetCause, pending := s.pending }

@[simp] theorem State.background_with_trunk (s : State) (x : TrunkPort) : ({ s with trunk := x } : State).background = s.background := rfl
@[simp] theorem State.background_with_notices (s : State) (x : List Notice) : ({ s with notices := x } : State).background = s.background := rfl
@[simp] theorem State.background_with_controller (s : State) (x : ControllerState) :
    ({ s with controller := x } : State).background = s.background := rfl
@[simp] theorem State.background_with_fresh (s : State) (x : Nat) : ({ s with fresh := x } : State).background = s.background := rfl

@[simp] theorem State.background_quiet (s : State) : s.quiet.background = s.background := rfl
@[simp] theorem State.background_emit (s : State) (p : Port) (f : Frame) : (s.emit p f).background = s.background := rfl
@[simp] theorem State.background_modBranch (s : State) (b : BranchId) (f : Branch → Branch) :
    (s.modBranch b f).background = s.background := rfl
@[simp] theorem State.background_setEntry (s : State) (n : EntryId) (e : Entry) : (s.setEntry n e).background = s.background := rfl
@[simp] theorem State.background_mapEntries (s : State) (f : Entry → Entry) : (s.mapEntries f).background = s.background := rfl
@[simp] theorem State.background_mapBranches (s : State) (f : Branch → Branch) : (s.mapBranches f).background = s.background := rfl
@[simp] theorem State.background_putAlert (s : State) (c : AlertKind) (a : AlertClass) : (s.putAlert c a).background = s.background := rfl
@[simp] theorem State.background_pushNotice (s : State) (o : NoticeSource) (d : Requester) (ws : List Word) :
    (s.pushNotice o d ws).background = s.background := rfl
@[simp] theorem State.background_pushAlert (s : State) (c : AlertKind) (d : Word) : (s.pushAlert c d).background = s.background := rfl

@[simp] theorem State.background_setLink (s : State) (p : Port) (l : LinkPort) : (s.setLink p l).background = s.background := by
  simp [State.background]

@[simp] theorem State.background_answer (s : State) (r : Requester) (t : Tag) (a : AnswerBody) :
    (s.answer r t a).background = s.background := by simp [State.background]

@[simp] theorem State.background_sendData (s : State) (p : Port) (ws : List Word) : (s.sendData p ws).background = s.background := by
  simp [State.background]

@[simp] theorem State.background_sendWaiting (s : State) (b : BranchId) (q : List BranchPacket) :
    (s.sendWaiting b q).background = s.background := by simp [State.background]

@[simp] theorem State.background_handToPort (s : State) (b : BranchId) (p : BranchPacket) :
    (s.handToPort b p).background = s.background := by simp [State.background]

@[simp] theorem State.background_raise (s : State) (c : AlertKind) (d : Word) : (s.raise c d).background = s.background := by
  simp [State.background]

@[simp] theorem State.background_handFault (s : State) (f : FaultEntry) : (s.handFault f).background = s.background := by
  simp [State.background]

@[simp] theorem State.background_setQueue (s : State) (b : BranchId) (q : List Item) :
    (s.setQueue b q).background = s.background := by simp [State.background]

@[simp] theorem State.background_syncLevel (s : State) (b : BranchId) : (s.syncLevel b).background = s.background := by
  simp [State.background]

@[simp] theorem State.background_appendItem (s : State) (b : BranchId) (it : Item) :
    (s.appendItem b it).background = s.background := by simp [State.background]

@[simp] theorem State.background_reportDrop (s : State) (b : BranchId) (p : PostedItem) (r : DropReason) :
    (s.reportDrop b p r).background = s.background := by simp [State.background]

@[simp] theorem State.background_reportLost (s : State) (b : BranchId) (q : List Item) :
    (s.reportLost b q).background = s.background := by simp [State.background]

@[simp] theorem State.background_complete (s : State) (n : EntryId) (l : LiveEntry) (st : ResultStatus) (ws : List Word) :
    (s.complete n l st ws).background = s.background := by simp [State.background]

@[simp] theorem State.background_endCommit (s : State) (o : CommitOutcome) : (s.endCommit o).background = s.background := by
  simp [State.background]

@[simp] theorem State.background_comeUp (s : State) (p : Port) : (s.comeUp p).background = s.background := by
  simp [State.background]

/-! ### Requests -/

@[simp] theorem State.background_refuseFormat (s : State) (c : FaultCauses) (kind : BitVec 8) (r : Requester) (t : Tag)
    (a : Option Address) : (s.refuseFormat c kind r t a).background = s.background := by simp [State.refuseFormat]

@[simp] theorem State.background_refuseDecode (s : State) (k : MemKind) (q : MemoryRequest) (a : Address) (c : FaultCauses)
    (st : CplStatus) (b : Option BranchId) (w : Option WindowId) : (s.refuseDecode k q a c st b w).background = s.background := by
  unfold State.refuseDecode
  split <;> simp

@[simp] theorem State.background_accept (s : State) (n : EntryId) (k : NpKind) (q : MemoryRequest) (a : Address) (b : BranchId) :
    (s.accept n k q a b).background = s.background := by simp [State.accept]

@[simp] theorem State.background_acceptPosted (s : State) (q : MemoryRequest) (a : Address) (b : BranchId) :
    (s.acceptPosted q a b).background = s.background := by simp [State.acceptPosted]

@[simp] theorem State.background_takeIn (s : State) (k : MemKind) (q : MemoryRequest) (a : Address) (b : BranchId) :
    (s.takeIn k q a b).background = s.background := by
  unfold State.takeIn
  split <;> split <;> simp

@[simp] theorem State.background_decodeAt (s : State) (k : MemKind) (q : MemoryRequest) (a : Address) (i : WindowId) :
    (s.decodeAt k q a i).background = s.background := by
  simp only [State.decodeAt]
  split
  · simp
  · split <;> simp

@[simp] theorem State.background_decodeNew (s : State) (k : MemKind) (q : MemoryRequest) (a : Address) :
    (s.decodeNew k q a).background = s.background := by
  unfold State.decodeNew
  split
  · simp
  · split
    · simp
    · split
      · split <;> simp
      · simp

@[simp] theorem State.background_answerRepeat (s : State) (n : EntryId) (l : LiveEntry) :
    (s.answerRepeat n l).background = s.background := by
  unfold State.answerRepeat
  split
  · split <;> simp
  · simp

@[simp] theorem State.background_matchEntry (s : State) (n : EntryId) (l : LiveEntry) (k : NpKind) (q : MemoryRequest) (a : Address) :
    (s.matchEntry n l k q a).background = s.background := by
  unfold State.matchEntry
  split
  · simp
  · split <;> simp

@[simp] theorem State.background_decodeNonPosted (s : State) (k : NpKind) (q : MemoryRequest) (a : Address) :
    (s.decodeNonPosted k q a).background = s.background := by
  unfold State.decodeNonPosted
  split
  · simp
  · split <;> simp

/-- A memory request, whatever its answer, leaves the background alone. -/
@[simp] theorem State.background_decodeMemory (s : State) (k : MemKind) (q : MemoryRequest) :
    (s.decodeMemory k q).background = s.background := by
  simp only [State.decodeMemory]
  split
  · simp
  · split
    · simp
    · split <;> simp

@[simp] theorem State.background_abandonEntry (s : State) (n : EntryId) (l : LiveEntry) :
    (s.abandonEntry n l).background = s.background := by
  unfold State.abandonEntry
  split <;> simp

/-! ### Engines -/

@[simp] theorem State.background_issue (s : State) (b : BranchId) (o : Outstanding) (ws : List Word) :
    (s.issue b o ws).background = s.background := by simp [State.issue]

@[simp] theorem State.background_issueEntry (s : State) (b : BranchId) (n : EntryId) :
    (s.issueEntry b n).background = s.background := by
  unfold State.issueEntry
  split <;> simp

@[simp] theorem State.background_issueSource (s : State) (b : BranchId) (src : Source) :
    (s.issueSource b src).background = s.background := by cases src <;> simp [State.issueSource]

@[simp] theorem State.background_choose (s : State) (b : BranchId) : (s.choose b).background = s.background := by
  unfold State.choose
  split <;> simp

@[simp] theorem State.background_clearOutstanding (s : State) (b : BranchId) :
    (s.clearOutstanding b).background = s.background := rfl

@[simp] theorem State.background_park (s : State) (b : BranchId) (n : EntryId) (l : LiveEntry) :
    (s.park b n l).background = s.background := rfl

@[simp] theorem State.background_endIssued (s : State) (b : BranchId) (n : EntryId) (l : LiveEntry) (e : Ending) :
    (s.endIssued b n l e).background = s.background := by
  cases e with
  | later =>
    simp only [State.endIssued]
    split <;> simp
  | _ => simp [State.endIssued]

@[simp] theorem State.background_endEntry (s : State) (b : BranchId) (n : EntryId) (e : Ending) :
    (s.endEntry b n e).background = s.background := by
  unfold State.endEntry
  split
  · rfl
  · split <;> simp

@[simp] theorem State.background_dropHead (s : State) (b : BranchId) (p : PostedItem) (rest : List Item) (r : DropReason) :
    (s.dropHead b p rest r).background = s.background := by simp [State.dropHead]

@[simp] theorem State.background_backOff (s : State) (b : BranchId) (p : PostedItem) (rest : List Item) :
    (s.backOff b p rest).background = s.background := rfl

@[simp] theorem State.background_endPosted (s : State) (b : BranchId) (e : Ending) :
    (s.endPosted b e).background = s.background := by
  unfold State.endPosted
  split
  · cases e with
    | later =>
      simp only
      split <;> simp
    | _ => simp
  · rfl

@[simp] theorem State.background_takeNotice (s : State) (b : BranchId) (count : BitVec 3) (code : BitVec 8) (ws : List Word) :
    (s.takeNotice b count code ws).background = s.background := by
  unfold State.takeNotice
  split
  · rfl
  · split <;> simp

/-! ### Links, timers and alerts -/

@[simp] theorem State.background_alertDeparts (s : State) (c : AlertKind) : (s.alertDeparts c).background = s.background := by
  simp only [State.alertDeparts]
  split <;> simp

@[simp] theorem State.background_noticeDeparts (s : State) (n : Notice) : (s.noticeDeparts n).background = s.background := by
  unfold State.noticeDeparts
  split <;> simp

@[simp] theorem State.background_transmit (s : State) : s.transmit.background = s.background := by
  unfold State.transmit
  split
  · split <;> simp
  · rfl

@[simp] theorem State.background_modLink (s : State) (p : Port) (f : LinkPort → LinkPort) :
    (s.modLink p f).background = s.background := by simp [State.modLink]

@[simp] theorem State.background_deliver (s : State) (p : Port) (ws : List Word) : (s.deliver p ws).background = s.background := by
  cases p <;> rfl

@[simp] theorem State.background_receiveData (s : State) (p : Port) (n : BitVec 8) (ws : List Word) :
    (s.receiveData p n ws).background = s.background := by
  simp only [State.receiveData]
  split
  · split <;> simp
  · split <;> simp

@[simp] theorem State.background_roomFreed (s : State) (p : Port) : (s.roomFreed p).background = s.background := by
  cases p <;> simp [State.roomFreed]

@[simp] theorem State.background_receiveAck (s : State) (p : Port) (n : BitVec 8) :
    (s.receiveAck p n).background = s.background := by
  unfold State.receiveAck
  split <;> simp

@[simp] theorem State.background_sendAgain (s : State) (p : Port) (fs : List (BitVec 8 × List Word)) :
    (s.sendAgain p fs).background = s.background := rfl

@[simp] theorem State.background_upIfTrained (s : State) (p : Port) : (s.upIfTrained p).background = s.background := by
  unfold State.upIfTrained
  split <;> simp

@[simp] theorem State.background_sendTrain (s : State) (p : Port) : (s.sendTrain p).background = s.background := by
  simp only [State.sendTrain]
  split <;> simp

@[simp] theorem State.background_expireCollection (s : State) (n : EntryId) : (s.expireCollection n).background = s.background := by
  unfold State.expireCollection
  split
  · split <;> simp
  · rfl

@[simp] theorem State.background_expireDrain (s : State) : s.expireDrain.background = s.background := by
  unfold State.expireDrain
  split <;> simp

@[simp] theorem State.background_cancelDrain (s : State) : s.cancelDrain.background = s.background := by
  unfold State.cancelDrain
  split <;> simp

theorem State.background_foldl {α : Type} (f : State → α → State) (hf : ∀ s a, (f s a).background = s.background) (as : List α)
    (s : State) : (as.foldl f s).background = s.background := by
  induction as generalizing s with
  | nil => rfl
  | cons a as ih => rw [List.foldl_cons, ih, hf]

@[simp] theorem State.background_acknowledge (s : State) (ws : List Word) : (s.acknowledge ws).background = s.background := by
  have hfold := State.background_foldl
    (fun s c => if ackFlag ws c then s.putAlert c (s.alerts.get c).acknowledge else s)
    (fun s c => by split <;> simp) AlertKind.all s
  simp only [State.acknowledge]
  split
  · rw [State.background_raise, hfold]
  · exact hfold

@[simp] theorem State.background_enable (s : State) (c : AlertKind) (flag : Bool) :
    (s.enable c flag).background = s.background := by
  simp only [State.enable]
  split <;> simp

theorem State.background_writeAlert (s : State) (ws : List Word) :
    (s.writeAlert ws).background = { s.background with alertDest := alertDestOf ws } := by
  simp only [State.writeAlert]
  rw [State.background_foldl _ (fun s c => by simp), State.background_acknowledge]
  rfl

/-! ### Management requests -/

@[simp] theorem State.background_refuseManagement (s : State) (kind : BitVec 8) (m : ManagementRequest) (c : FaultCauses)
    (st : CplStatus) : (s.refuseManagement kind m c st).background = s.background := by simp [State.refuseManagement]

@[simp] theorem State.background_afterRead (s : State) (o : Object) : (s.afterRead o).background = s.background := by
  cases o <;> rfl

@[simp] theorem State.background_serveRead (s : State) (m : ManagementRequest) : (s.serveRead m).background = s.background := by
  unfold State.serveRead
  split
  · simp
  · split <;> simp

/-! ### Events that may end a drain -/

/-- A background with the STAGED bank copied into ACTIVE (R118). -/
def Background.swapped (g : Background) : Background := { g with active := g.staged }

/-- The background g has become h: nothing of it has changed, or the banks have been swapped. -/
def Background.SwapsTo (g h : Background) : Prop := h = g ∨ h = g.swapped

@[simp] theorem Background.SwapsTo.refl (g : Background) : g.SwapsTo g := .inl rfl

theorem Background.SwapsTo.trans {g h k : Background} : g.SwapsTo h → h.SwapsTo k → g.SwapsTo k := by
  rintro (rfl | rfl) (rfl | rfl)
  · exact .inl rfl
  · exact .inr rfl
  · exact .inr rfl
  · exact .inr rfl

@[simp] theorem State.swapsTo_commitSwap (s : State) : s.background.SwapsTo s.commitSwap.background := by
  refine .inr ?_
  rw [State.commitSwap, State.background_endCommit]
  rfl

@[simp] theorem State.swapsTo_drainEnd (s : State) : s.background.SwapsTo s.drainEnd.background := by
  unfold State.drainEnd
  split <;> simp

@[simp] theorem State.swapsTo_startDrain (s : State) : s.background.SwapsTo s.startDrain.background := by
  unfold State.startDrain
  split <;> simp

/-- A drain that ends after work that leaves the background alone. -/
theorem State.swapsTo_drainEnd_of_eq {s t : State} (h : t.background = s.background) :
    s.background.SwapsTo t.drainEnd.background := h ▸ t.swapsTo_drainEnd

@[simp] theorem State.swapsTo_decodeAbandon (s : State) (r : Requester) (t : Tag) (extra : Nat) :
    s.background.SwapsTo (s.decodeAbandon r t extra).background := by
  unfold State.decodeAbandon
  split
  · simp
  · split
    · simp
    · split
      · simp
      · split
        · simp
        · rw [State.background_answer]
          exact State.swapsTo_drainEnd_of_eq (by simp)

@[simp] theorem State.swapsTo_branchLoss (s : State) (b : BranchId) : s.background.SwapsTo (s.branchLoss b).background :=
  State.swapsTo_drainEnd_of_eq (by simp)

@[simp] theorem State.swapsTo_trunkLoss (s : State) : s.background.SwapsTo s.trunkLoss.background :=
  State.swapsTo_drainEnd_of_eq (by simp)

@[simp] theorem State.swapsTo_linkLost (s : State) (p : Port) : s.background.SwapsTo (s.linkLost p).background := by
  cases p with
  | trunk => exact State.swapsTo_trunkLoss _
  | branch b =>
    simp only [State.linkLost]
    split
    · exact State.swapsTo_branchLoss _ b
    · simp

@[simp] theorem State.swapsTo_endIssue (s : State) (b : BranchId) (o : Outstanding) (e : Ending) :
    s.background.SwapsTo (s.endIssue b o e).background := by
  cases o with
  | entry n => exact State.swapsTo_drainEnd_of_eq (by simp)
  | posted => exact State.swapsTo_drainEnd_of_eq (by simp)
  | probe => simp [State.endIssue]

@[simp] theorem State.swapsTo_takeAnswer (s : State) (b : BranchId) (a : TargetAnswer) (count : BitVec 6) (ws : List Word) :
    s.background.SwapsTo (s.takeAnswer b a count ws).background := by
  unfold State.takeAnswer
  split
  · simp
  · split <;> simp

@[simp] theorem State.swapsTo_serveTarget (s : State) (b : BranchId) (p : TargetPacket) :
    s.background.SwapsTo (s.serveTarget b p).background := by cases p <;> simp [State.serveTarget]

@[simp] theorem State.swapsTo_receive (s : State) (p : Port) (f : Frame) : s.background.SwapsTo (s.receive p f).background := by
  simp only [State.receive]
  split
  · cases f with
    | train ready => simpa using State.swapsTo_linkLost (s.modLink p (fun l => { l with checkFailures := 0 })) p
    | _ => simp
  · cases f with
    | train ready =>
      simp only
      split <;> simp
    | _ => simp

@[simp] theorem State.swapsTo_receiveFailure (s : State) (p : Port) : s.background.SwapsTo (s.receiveFailure p).background := by
  simp only [State.receiveFailure]
  split
  · split
    · refine Background.SwapsTo.trans (.inl ?_) (State.swapsTo_linkLost _ p)
      simp
    · simp
  · simp

@[simp] theorem State.swapsTo_receiveWords (s : State) (p : Port) (raw : List Word) :
    s.background.SwapsTo (s.receiveWords p raw).background := by
  unfold State.receiveWords
  split <;> simp

@[simp] theorem State.swapsTo_expireAck (s : State) (p : Port) : s.background.SwapsTo (s.expireAck p).background := by
  simp only [State.expireAck]
  split
  · split <;> simp
  · simp

@[simp] theorem State.swapsTo_signalLost (s : State) (p : Port) : s.background.SwapsTo (s.signalLost p).background := by
  unfold State.signalLost
  split <;> simp

@[simp] theorem State.swapsTo_writeBranch (s : State) (b : BranchId) (v : BranchSettings) :
    s.background.SwapsTo (s.writeBranch b v).background := by
  have hflags : ∀ (u : State) (hold reset : Bool), u.background.SwapsTo (u.applyFlags b hold reset).background := by
    intro u hold reset
    simp only [State.applyFlags]
    split
    · split
      · exact State.swapsTo_branchLoss _ b
      · simp
    · simp
  simp only [State.writeBranch]
  split <;> exact Background.SwapsTo.trans (.inl (by simp)) (hflags _ _ _)

/-! ### Taking a packet -/

/-- What holds of s, and of every state that serving the packet from the trunk port gives, holds after the packet is taken. -/
theorem State.takeRequest_elim {P : State → Prop} {s : State} {p : TrunkPacket} {serve : State → State} (idle : P s)
    (served : ∀ d, P (serve { s with trunk := { s.trunk with delivered := d } })) : P (s.takeRequest p serve) := by
  unfold State.takeRequest
  split
  · split
    · exact served _
    · split
      · exact served s.trunk.delivered
      · exact idle
  · exact idle

/-- What holds of s, and of every state that serving the packet from the branch port gives, holds after the packet is taken. -/
theorem State.takeTarget_elim {P : State → Prop} {s : State} {b : BranchId} {p : TargetPacket} {serve : State → State} (idle : P s)
    (served : P (serve s)) (popped : ∀ rest, P (serve (s.modBranch b (fun br => { br with delivered := rest })))) :
    P (s.takeTarget b p serve) := by
  simp only [State.takeTarget]
  split
  · split
    · split
      · exact popped _
      · exact idle
    · split
      · exact served
      · exact idle
  · exact idle

theorem State.swapsTo_takeRequest (s : State) (p : TrunkPacket) (serve : State → State)
    (h : ∀ u : State, u.background.SwapsTo (serve u).background) : s.background.SwapsTo (s.takeRequest p serve).background :=
  State.takeRequest_elim (P := fun t => s.background.SwapsTo t.background) (by simp) (fun _ => h _)

theorem State.swapsTo_takeTarget (s : State) (b : BranchId) (p : TargetPacket) (serve : State → State)
    (h : ∀ u : State, u.background.SwapsTo (serve u).background) : s.background.SwapsTo (s.takeTarget b p serve).background :=
  State.takeTarget_elim (P := fun t => s.background.SwapsTo t.background) (by simp) (h _) (fun _ => h _)

end Sys2Proof.Machine

namespace Sys2Proof.Machine

/-! O51: what every command makes of the window banks and of the requester settings, and the two laws that follow. -/

/-! ### What an event makes of the window banks and of the manager set -/

/-- What one event makes of the window banks and the requester settings of s: at most a swap (R118); a lawful record written to STAGED
(R3, R117); ACTIVE copied into STAGED (R125); a settings record written that does not remove the only manager (R154); or the reset
values (R2, R148). -/
inductive State.WindowStep (s t : State) : Prop
  | swaps (staged : t.staged = s.staged) (active : t.active = s.active ∨ t.active = s.staged) (settings : t.settings = s.settings)
  | staged (i : WindowId) (w : Window) (lawful : w.lawful = true) (staged : t.staged = s.staged.set i w)
      (active : t.active = s.active) (settings : t.settings = s.settings)
  | reverts (staged : t.staged = s.active) (active : t.active = s.active) (settings : t.settings = s.settings)
  | settings (r : Requester) (v : RequesterSettings) (keeps : v.manager = true ∨ s.onlyManager r = false)
      (staged : t.staged = s.staged) (active : t.active = s.active) (settings : t.settings = s.settings.set r v)
  | resets (staged : t.staged = State.cleared.staged) (active : t.active = State.cleared.active)
      (settings : t.settings = State.cleared.settings)

theorem State.WindowStep.of_swapsTo {s t : State} (h : s.background.SwapsTo t.background) : s.WindowStep t := by
  rcases h with h | h
  · exact .swaps (congrArg Background.staged h) (.inl (congrArg Background.active h)) (congrArg Background.settings h)
  · exact .swaps (congrArg Background.staged h) (.inr (congrArg Background.active h)) (congrArg Background.settings h)

theorem State.WindowStep.of_eq {s t : State} (h : t.background = s.background) : s.WindowStep t := .of_swapsTo (.inl h)

/-- Work before an event that leaves the background alone does not change what the event makes of it. -/
theorem State.WindowStep.congr_left {s u t : State} (h : u.background = s.background) (hstep : u.WindowStep t) : s.WindowStep t := by
  have hs : u.staged = s.staged := congrArg Background.staged h
  have ha : u.active = s.active := congrArg Background.active h
  have hr : u.settings = s.settings := congrArg Background.settings h
  have hm : ∀ r, u.onlyManager r = s.onlyManager r := fun r => by simp only [State.onlyManager, hr]
  cases hstep with
  | swaps h1 h2 h3 => exact .swaps (h1.trans hs) (by rwa [ha, hs] at h2) (h3.trans hr)
  | staged i w hw h1 h2 h3 => exact .staged i w hw (h1.trans (by rw [hs])) (h2.trans ha) (h3.trans hr)
  | reverts h1 h2 h3 => exact .reverts (h1.trans ha) (h2.trans ha) (h3.trans hr)
  | settings r v hv h1 h2 h3 => exact .settings r v (hm r ▸ hv) (h1.trans hs) (h2.trans ha) (h3.trans (by rw [hr]))
  | resets h1 h2 h3 => exact .resets h1 h2 h3

theorem State.windowStep_resetAll (s : State) (c : ResetCause) (p : TrunkPort) : s.WindowStep (s.resetAll c p) :=
  .resets (by simp [State.resetAll]) (by simp [State.resetAll]) (by simp [State.resetAll])

theorem State.windowStep_commitAction (s : State) (action : BitVec 4) : s.WindowStep (s.commitAction action) := by
  unfold State.commitAction
  split
  · exact .of_swapsTo (by simp)
  · split
    · exact .of_swapsTo (by simp)
    · split
      · exact .of_eq (by simp)
      · split
        · exact .reverts rfl rfl rfl
        · exact .of_eq rfl

/-- R155: a written requester record that is not a BAD-VALUE keeps a manager. -/
theorem State.manager_or_not_only_of_badValue_eq_false {s : State} {r : Requester} {ws : List Word}
    (h : s.badValue (.req r) ws = false) : (RequesterSettings.ofWords ws).manager = true ∨ s.onlyManager r = false := by
  simp only [State.badValue, Bool.or_eq_false_iff, Bool.and_eq_false_iff, Bool.not_eq_false'] at h
  exact h.2

/-- R157: the effect of an MW whose record is not a BAD-VALUE. -/
theorem State.windowStep_applyWrite {s : State} {o : Object} {ws : List Word} (h : s.badValue o ws = false) :
    s.WindowStep (s.applyWrite o ws) := by
  cases o with
  | winStaged i => exact .staged i (Window.ofWords ws) (by simpa [State.badValue] using h) rfl rfl rfl
  | commit => exact s.windowStep_commitAction _
  | req r => exact .settings r (RequesterSettings.ofWords ws) (State.manager_or_not_only_of_badValue_eq_false h) rfl rfl rfl
  | branch b => exact .of_swapsTo (by simp [State.applyWrite])
  | probe b =>
    simp only [State.applyWrite]
    split <;> exact .of_eq rfl
  | alert =>
    have hw := s.background_writeAlert ws
    exact .swaps (congrArg Background.staged hw) (.inl (congrArg Background.active hw)) (congrArg Background.settings hw)
  | timing => exact .swaps rfl (.inl rfl) rfl
  | part => exact s.windowStep_resetAll _ _
  | ident | winActive i | fault r | entry n => exact .of_eq rfl

theorem State.badValue_answer (s : State) (r : Requester) (t : Tag) (a : AnswerBody) (o : Object) (ws : List Word) :
    (s.answer r t a).badValue o ws = s.badValue o ws := by
  cases o <;> simp [State.badValue, State.onlyManager]

theorem State.windowStep_serveWrite (s : State) (m : ManagementRequest) : s.WindowStep (s.serveWrite m) := by
  simp only [State.serveWrite]
  split
  · exact .of_eq (by simp)
  · split
    · exact .of_eq (by simp)
    · rename_i o _
      split
      · exact .of_eq (by simp)
      · split
        · exact .of_eq (by simp)
        · rename_i hvalue
          simp only [Bool.or_eq_true, not_or, Bool.not_eq_true] at hvalue
          refine .congr_left (s.background_answer m.requester m.tag (.completion .ok [])) (State.windowStep_applyWrite ?_)
          rw [State.badValue_answer]
          exact hvalue.1

theorem State.windowStep_takeWrite (s : State) (m : ManagementRequest) : s.WindowStep (s.takeWrite m) := by
  refine State.takeRequest_elim (P := s.WindowStep) (.of_eq rfl) (fun d => ?_)
  refine .congr_left ?_ (State.windowStep_serveWrite _ m)
  rfl

theorem State.windowStep_takeRequest {s : State} {p : TrunkPacket} {serve : State → State}
    (h : ∀ u : State, u.background.SwapsTo (serve u).background) : s.WindowStep (s.quiet.takeRequest p serve) :=
  .of_swapsTo (s.background_quiet ▸ s.quiet.swapsTo_takeRequest p serve h)

theorem State.windowStep_takeTarget {s : State} {b : BranchId} {p : TargetPacket} {serve : State → State}
    (h : ∀ u : State, u.background.SwapsTo (serve u).background) : s.WindowStep (s.quiet.takeTarget b p serve) :=
  .of_swapsTo (s.background_quiet ▸ s.quiet.swapsTo_takeTarget b p serve h)

/-- Every command makes one of these changes to the window banks and the requester settings. -/
theorem exec_windowStep {c : Instr} {s t : State} (h : exec c s = .next t) : s.WindowStep t := by
  cases c <;> (cases h)
  case read | confirmedWrite | postedWrite | exchange | abandon | unknownKind | managementRead =>
    exact State.windowStep_takeRequest (fun u => by simp)
  case managementWrite | winStagedWrite | immediate | drain | cancel | revert | reqWrite | take | branchSettingsWrite | holdFlagSet
      | holdFlagCleared | resetFlagSet | resetFlagCleared | probeRead | probeWrite | alertAcknowledge | alertEnable | timingWrite
      | partReset =>
    exact s.windowStep_takeWrite _
  case hardReset | powerUp => exact .congr_left s.background_quiet (State.windowStep_resetAll _ _ _)
  case done | later | refuse | bntc | strayTargetPacket => exact State.windowStep_takeTarget (fun u => by simp)
  case responseTimeout =>
    split
    · exact .of_swapsTo (s.quiet.swapsTo_endIssue _ _ _)
    · exact .of_eq rfl
  case dataFrame =>
    split
    · exact .of_swapsTo (s.quiet.swapsTo_receiveFailure _)
    · exact .of_swapsTo (s.quiet.swapsTo_receive _ _)
  case ack | resend | train => exact .of_swapsTo (s.quiet.swapsTo_receive _ _)
  case checkFailure => exact .of_swapsTo (s.quiet.swapsTo_receiveWords _ _)
  case acknowledgementTimerExpiry => exact .of_swapsTo (s.quiet.swapsTo_expireAck _)
  case signalAbsent => exact .of_swapsTo (s.quiet.swapsTo_signalLost _)
  case engineChoice | retryIntervalPasses | backoffIntervalEnds | collectionTimerExpiry | drainTimerExpiry | transmitChoice
      | trainFrameSend =>
    exact .of_eq (by simp)

/-! ### Laws that every step keeps -/

/-- A law that does not look at the queue of commands is kept by every step when every command keeps it. -/
theorem kept_of_exec {I : State → Prop} (hq : ∀ (s : State) (cs : List Instr), I s → I { s with pending := cs })
    (he : ∀ (c : Instr) (s t : State), I s → exec c s = .next t → I t) : Kept I := by
  intro s t hs ht
  unfold step at ht
  split at ht
  · cases ht
    exact hs
  · exact he _ _ _ (hq _ _ hs) ht

theorem State.WindowLaw.of_windowStep {s t : State} (hs : s.WindowLaw) (h : s.WindowStep t) : t.WindowLaw := by
  intro j
  obtain ⟨hstaged, hactive⟩ := hs j
  cases h with
  | swaps h1 h2 _ => exact ⟨h1 ▸ hstaged, h2.elim (fun e => e ▸ hactive) (fun e => e ▸ hstaged)⟩
  | staged i w hw h1 h2 _ =>
    refine ⟨?_, h2 ▸ hactive⟩
    rw [h1]
    by_cases hij : i = j
    · subst hij
      simpa using hw
    · have hne : i.val ≠ j.val := fun e => hij (Fin.ext e)
      simpa [Vector.getElem_set, hne] using hstaged
  | reverts h1 h2 _ => exact ⟨h1 ▸ hactive, h2 ▸ hactive⟩
  | settings r v _ h1 h2 _ => exact ⟨h1 ▸ hstaged, h2 ▸ hactive⟩
  | resets h1 h2 _ =>
    rw [h1, h2]
    simp [State.cleared, Window.blank, Window.lawful]

/-- R154: when r is not the only manager and there is one, another requester is one. -/
theorem State.exists_other_manager {s : State} {r : Requester} (hs : s.ManagerLaw) (h : s.onlyManager r = false) :
    ∃ x : Requester, x ≠ r ∧ s.settings[x].manager = true := by
  obtain ⟨y, hy⟩ := hs
  by_cases hyr : y = r
  · subst hyr
    simp only [State.onlyManager, hy, Bool.true_and, List.all_eq_false, Bool.or_eq_true, beq_iff_eq, not_or, Bool.not_eq_true',
      Bool.not_eq_false] at h
    obtain ⟨x, -, hx⟩ := h
    exact ⟨x, hx⟩
  · exact ⟨y, hyr, hy⟩

theorem State.ManagerLaw.of_windowStep {s t : State} (hs : s.ManagerLaw) (h : s.WindowStep t) : t.ManagerLaw := by
  cases h with
  | swaps _ _ h3 => rwa [State.ManagerLaw, h3]
  | staged _ _ _ _ _ h3 => rwa [State.ManagerLaw, h3]
  | reverts _ _ h3 => rwa [State.ManagerLaw, h3]
  | settings r v hv _ _ h3 =>
    rw [State.ManagerLaw, h3]
    rcases hv with hv | hv
    · exact ⟨r, by simpa using hv⟩
    · obtain ⟨x, hxr, hx⟩ := State.exists_other_manager hs hv
      have hne : r.val ≠ x.val := fun e => hxr (Fin.ext e.symm)
      exact ⟨x, by simpa [Vector.getElem_set, hne] using hx⟩
  | resets _ _ h3 =>
    rw [State.ManagerLaw, h3]
    exact ⟨0, by simp [State.cleared]⟩

/-- Settles O51: every command changes the banks and the settings only as `State.WindowStep` says, and each of those changes keeps both
laws. -/
theorem windowAndManagerLawsAreKept : Obligations.WindowAndManagerLawsAreKept :=
  ⟨kept_of_exec (fun _ _ hs => hs) (fun _ _ _ hs h => hs.of_windowStep (exec_windowStep h)),
    kept_of_exec (fun _ _ hs => hs) (fun _ _ _ hs h => hs.of_windowStep (exec_windowStep h))⟩

end Sys2Proof.Machine

namespace Sys2Proof.Machine

/-! O12 and O14 to O20: the Request Decoder, each claim by how far its request goes through the check order. -/

/-! ### Stage 1: the format group -/

theorem maxLength_eq (k : MemKind) : maxLength k = if k = .np .xch then 2 else 32 := by
  cases k with
  | np k => cases k <;> rfl
  | wrp => rfl

theorem expectedData_eq (k : MemKind) (q : MemoryRequest) : expectedData k q = if k = .np .rd then 0 else q.length.toNat := by
  cases k with
  | np k => cases k <;> rfl
  | wrp => rfl

/-- R9: a byte range of at least one word leaves its page exactly when its last byte is in another page. -/
theorem crossesPage_iff {a : Address} {n : Nat} (hn : 1 ≤ n) :
    crossesPage a n = true ↔ (a.toNat + 4 * n - 1) / 4096 ≠ a.toNat / 4096 := by
  rw [crossesPage, decide_eq_true_eq]
  omega

/-- R9: the three format causes of a memory request that has its address. -/
theorem formatCauses_of_address {k : MemKind} {q : MemoryRequest} {a : Address} (ha : q.address = some a) :
    formatCauses k q
      = .format false
          (decide (¬ (1 ≤ q.length.toNat ∧ q.length.toNat ≤ (if k = .np .xch then 2 else 32))
            ∨ q.data.length ≠ (if k = .np .rd then 0 else q.length.toNat)))
          (decide (a.toNat % 4 ≠ 0))
          (decide ((1 ≤ q.length.toNat ∧ q.length.toNat ≤ (if k = .np .xch then 2 else 32))
            ∧ (a.toNat + 4 * q.length.toNat - 1) / 4096 ≠ a.toNat / 4096)) := by
  have hrange : lengthInRange k q = true ↔ 1 ≤ q.length.toNat ∧ q.length.toNat ≤ (if k = .np .xch then 2 else 32) := by
    rw [lengthInRange, maxLength_eq, Bool.and_eq_true, decide_eq_true_eq, decide_eq_true_eq, Nat.one_le_iff_ne_zero]
  have hlength : (!lengthInRange k q || decide (q.data.length ≠ expectedData k q)) = true
      ↔ ¬ (1 ≤ q.length.toNat ∧ q.length.toNat ≤ (if k = .np .xch then 2 else 32))
        ∨ q.data.length ≠ (if k = .np .rd then 0 else q.length.toNat) := by
    rw [Bool.or_eq_true, Bool.not_eq_true', ← Bool.not_eq_true, hrange, decide_eq_true_eq, expectedData_eq]
  have hpage : (lengthInRange k q && crossesPage a q.length.toNat) = true
      ↔ (1 ≤ q.length.toNat ∧ q.length.toNat ≤ (if k = .np .xch then 2 else 32))
        ∧ (a.toNat + 4 * q.length.toNat - 1) / 4096 ≠ a.toNat / 4096 := by
    rw [Bool.and_eq_true, hrange]
    exact and_congr_right fun h => crossesPage_iff h.1
  simp only [formatCauses, ha, FaultCauses.format.injEq, true_and]
  exact ⟨Bool.eq_iff_iff.2 (hlength.trans decide_eq_true_iff.symm), Bool.eq_iff_iff.2 (hpage.trans decide_eq_true_iff.symm)⟩

/-- R10: what becomes of a memory request with a format cause. -/
theorem State.decodeMemory_of_formatCauses {u : State} {k : MemKind} {q : MemoryRequest} (h : (formatCauses k q).any = true) :
    u.decodeMemory k q
      = (u.handFault (memoryFault u k q (formatCauses k q) none none)).answer q.requester q.tag (.completion .format []) := by
  cases ha : q.address <;> simp only [State.decodeMemory, ha, h, if_true, State.refuseFormat, memoryFault]

/-- Settles O12: stage 1 finds a cause, and the request goes no further. -/
theorem malformedRequestsAnswerFormat : Obligations.MalformedRequestsAnswerFormat := by
  refine ⟨?short, ?cause, ?unknown, ?abandon⟩
  case short =>
    intro k q s u hoff ha
    have hc : formatCauses k q = .format false true false false := by simp only [formatCauses, ha]
    rw [exec_memoryCommand hoff, State.decodeMemory_of_formatCauses (by rw [hc]; rfl), hc]
  case cause =>
    intro k q a s u inRange length align pageCross hoff ha hcause
    have hc := formatCauses_of_address (k := k) ha
    have hany : (formatCauses k q).any = true := by
      rw [hc, FaultCauses.any, Bool.false_or, Bool.or_eq_true, Bool.or_eq_true, decide_eq_true_eq, decide_eq_true_eq,
        decide_eq_true_eq, or_assoc]
      exact hcause
    rw [exec_memoryCommand hoff, State.decodeMemory_of_formatCauses hany, hc]
  case unknown =>
    intro kind r t s u hoff
    simp only [exec, execUnknownKind, State.takeRequest_of_offers _ hoff, State.refuseFormat]
  case abandon =>
    intro r t extra s u hoff hextra
    simp only [exec, execAbandon, State.takeRequest_of_offers _ hoff, State.decodeAbandon, if_pos hextra, State.refuseFormat]
    rfl

/-! ### Stage 2: the entry of the pair -/

/-- R12: a well-formed non-posted request whose pair has a live entry is matched with it. -/
theorem State.decodeMemory_of_live {u : State} {k : NpKind} {q : MemoryRequest} {a : Address} {n : EntryId} {l : LiveEntry}
    (hw : WellFormedAt (.np k) q a) (hp : u.PairLaw) (hn : u.entries[n] = .live l) (hr : l.req.requester = q.requester)
    (ht : l.req.tag = q.tag) : u.decodeMemory (.np k) q = u.matchEntry n l k q a := by
  rw [State.decodeMemory_of_wellFormedAt hw]
  simp only [State.decodeNonPosted, State.findEntry_eq_some hp hn hr ht, hn]

theorem LiveEntry.sameRequest_iff {l : LiveEntry} {k : NpKind} {q : MemoryRequest} {a : Address} :
    l.sameRequest k q a = true ↔ l.req.kind = k ∧ l.req.address = a ∧ l.req.length = q.length := by
  simp [LiveEntry.sameRequest, and_assoc]

/-- R36 to R38: a repeat of a request that is not DISOWNED is answered from its entry. -/
theorem State.matchEntry_of_same {u : State} {n : EntryId} {l : LiveEntry} {k : NpKind} {q : MemoryRequest} {a : Address}
    (hs : l.state ≠ .disowned) (h : l.req.kind = k ∧ l.req.address = a ∧ l.req.length = q.length) :
    u.matchEntry n l k q a = u.answerRepeat n l := by
  rw [State.matchEntry, if_neg hs, if_pos (LiveEntry.sameRequest_iff.2 h)]

/-- Settles O14: stage 2 matches the request with its entry, and the entry's state decides. -/
theorem requestsMeetTheirEntry : Obligations.RequestsMeetTheirEntry := by
  intro k q a n l s u hoff hw hp hn hr ht same
  rw [exec_memoryCommand hoff, State.decodeMemory_of_live hw hp hn hr ht]
  refine ⟨?held, ?going, ?collected, ?fenced, ?conflict⟩
  case held =>
    intro hs
    rw [State.matchEntry, if_pos hs]
  case going =>
    intro hsame hs
    rcases hs with hs | hs | hs <;>
      rw [State.matchEntry_of_same (by simp [hs]) hsame, State.answerRepeat, hs, hr, ht]
  case collected =>
    intro c hsame hs hf
    rw [State.matchEntry_of_same (by simp [hs]) hsame]
    simp only [State.answerRepeat, hs, hf, hr, ht, State.setEntry]
  case fenced =>
    intro c f hsame hs hf
    rw [State.matchEntry_of_same (by simp [hs]) hsame]
    simp only [State.answerRepeat, hs, hf, hr, ht, State.setEntry]
  case conflict =>
    intro hsame hs
    rw [State.matchEntry, if_neg hs, if_neg (fun h => hsame (LiveEntry.sameRequest_iff.1 h))]
    simp only [memoryFault, hw.1]
    rfl

/-! ### Stages 3 to 5: the drain, the window, the permission -/

theorem Window.target_eq_none {w : Window} (h : 4 ≤ w.branch.toNat) : w.target = none := dif_neg (Nat.not_lt.2 h)

theorem Window.toNat_branch_of_target {w : Window} {b : BranchId} (h : w.target = some b) : w.branch.toNat = b := by
  unfold Window.target at h
  split at h
  · cases h
    rfl
  · cases h

/-- R16, R17: a decode or permission fault, in the claims' terms. -/
theorem State.refuseDecode_eq {u : State} {k : MemKind} {q : MemoryRequest} {a : Address} (ha : q.address = some a)
    (c : FaultCauses) (st : CplStatus) (b : Option BranchId) (w : Option WindowId) :
    u.refuseDecode k q a c st b w
      = (u.handFault (memoryFault u k q c b w)).answer q.requester q.tag
          (if u.settings[q.requester].strict then .completion st [] else AllOnesAnswer k q) := by
  simp only [State.refuseDecode, memoryFault, ha, absorbedAnswer_eq]
  split <;> rfl

/-- R15: the permission causes of a request, in the claims' terms. -/
theorem permissionCauses_eq (k : MemKind) (r : Requester) (w : Window) :
    permissionCauses k r w
      = .permission (decide (k ≠ .np .wrn ∧ k ≠ .wrp ∧ inMask w.readMask r = false))
          (decide (k ≠ .np .rd ∧ inMask w.writeMask r = false)) (decide (k = .wrp ∧ w.posted = false)) false false := by
  cases k with
  | wrp => simp [permissionCauses]
  | np k => cases k <;> simp [permissionCauses]

/-- R15, R16: a request at a window whose branch is not DOWN or RESET and that does not permit it. -/
theorem State.decodeNew_of_not_permits {u : State} {k : MemKind} {q : MemoryRequest} {a : Address} {i : WindowId}
    (hidle : u.controller = .idle) (hm : u.Matches a i)
    (hc : ∀ b : BranchId, u.active[i].branch.toNat = b → u.branches[b].carries = true) (hp : ¬ u.active[i].permits k q.requester) :
    u.decodeNew k q a
      = u.refuseDecode k q a (permissionCauses k q.requester u.active[i]) .denied u.active[i].target (some i) := by
  have hany : (permissionCauses k q.requester u.active[i]).any = true :=
    Bool.of_not_eq_false (mt (permissionCauses_any_eq_false k q.requester u.active[i]).1 hp)
  simp only [State.decodeNew, State.draining_eq_false.2 hidle, State.matchWindow_eq_some.2 hm, Bool.false_eq_true, if_false]
  cases ht : u.active[i].target with
  | none => simp only [State.decodeAt, hany, if_true, ht]
  | some b =>
    have hup := hc b (Window.toNat_branch_of_target ht)
    simp only [State.unavailable, hup, Bool.not_true, Bool.false_eq_true, if_false, State.decodeAt, hany, if_true, ht]

/-- Settles O16: the request reaches stage 4, and is refused at the first of stages 4 and 5 that finds a fault. -/
theorem decodeFaultsAreLoggedAndAnswered : Obligations.DecodeFaultsAreLoggedAndAnswered := by
  intro k q a s u hoff hreach hidle refused
  have ha : q.address = some a := hreach.1.1
  rw [exec_memoryCommand hoff, State.decodeMemory_of_reachesStage3 hreach]
  refine ⟨?unclaimed, fun i hm => ⟨?unavailable, ?denied⟩⟩
  case unclaimed =>
    intro hnone
    simp only [State.decodeNew, State.draining_eq_false.2 hidle, State.matchWindow_eq_none.2 hnone, Bool.false_eq_true, if_false,
      State.refuseDecode_eq ha, refused]
  case unavailable =>
    intro b hb hdown
    simp only [State.decodeNew, State.draining_eq_false.2 hidle, State.matchWindow_eq_some.2 hm, Window.target_eq_some hb,
      State.unavailable, hdown, Bool.not_false, if_true, Bool.false_eq_true, if_false, State.refuseDecode_eq ha, refused]
  case denied =>
    intro hup hperm noRead noWrite noPosted
    rw [State.decodeNew_of_not_permits hidle hm hup hperm, State.refuseDecode_eq ha, permissionCauses_eq]

/-- Settles O17: SINK is no branch, so a request that passes stage 5 is answered at stage 6. -/
theorem sinkAnswersAtOnce : Obligations.SinkAnswersAtOnce := by
  intro k q a i s u hoff hpass hsink
  have ht : u.active[i].target = none := Window.target_eq_none (by rw [hsink]; decide)
  rw [exec_memoryCommand hoff, State.decodeMemory_of_reachesStage3 hpass.1, State.decodeNew_of_passes hpass, ht,
    ← absorbedAnswer_eq]

/-! ### Stages 7 and 8: capacity and acceptance -/

/-- R14, R15, R19 to R22: a request that passes stages 1 to 5 at a window of a branch that carries packets comes to stage 7. -/
theorem exec_memoryCommand_of_passes {k : MemKind} {q : MemoryRequest} {a : Address} {i : WindowId} {b : BranchId} {s u : State}
    (hoff : s.Offers (.memory k q) u) (hpass : u.Passes k q a i) (hb : u.active[i].branch.toNat = b)
    (hup : u.branches[b].carries = true) : exec (memoryCommand k q) s = .next (u.takeIn k q a b) := by
  rw [exec_memoryCommand hoff, State.decodeMemory_of_reachesStage3 hpass.1, State.decodeNew_of_passes hpass,
    Window.target_eq_some hb]
  simp only [State.unavailable, hup, Bool.not_true, Bool.false_eq_true, if_false]

theorem State.exists_pickFree {u : State} (h : ¬ ∀ n : EntryId, u.entries[n] ≠ .free) : ∃ n, u.pickFree = some n :=
  Option.ne_none_iff_exists'.1 (mt State.pickFree_eq_none.1 h)

/-! R19: the checks for a non-posted request, in their order. -/

theorem State.roomForEntry_of_full {u : State} {r : Requester} {b : BranchId} (h : ∀ n : EntryId, u.entries[n] ≠ .free) :
    u.roomForEntry r b = .inl .tableFull := by rw [State.roomForEntry, State.pickFree_eq_none.2 h]

theorem State.roomForEntry_of_quota {u : State} {r : Requester} {b : BranchId} {n : EntryId} (hn : u.pickFree = some n)
    (hquota : u.settings[r].quota.toNat ≤ u.entryCount r) : u.roomForEntry r b = .inl .quota := by
  rw [State.roomForEntry, hn]
  exact if_pos hquota

theorem State.roomForEntry_of_queueFull {u : State} {r : Requester} {b : BranchId} {n : EntryId} (hn : u.pickFree = some n)
    (hquota : ¬ u.settings[r].quota.toNat ≤ u.entryCount r) (hqueue : 16 ≤ u.branches[b].queue.length) :
    u.roomForEntry r b = .inl .queueFull := by
  rw [State.roomForEntry, hn]
  exact (if_neg hquota).trans (if_pos hqueue)

theorem State.roomForEntry_of_room {u : State} {r : Requester} {b : BranchId} {n : EntryId} (hn : u.pickFree = some n)
    (hquota : u.entryCount r < u.settings[r].quota.toNat) (hqueue : u.branches[b].queue.length < 16) :
    u.roomForEntry r b = .inr n := by
  rw [State.roomForEntry, hn]
  exact (if_neg (Nat.not_le.2 hquota)).trans (if_neg (Nat.not_le.2 hqueue))

/-! R20: the checks for a WRP, in their order. -/

theorem State.lacksForPosted_of_queueFull {u : State} {q : MemoryRequest} {b : BranchId} (hqueue : 16 ≤ u.branches[b].queue.length) :
    u.lacksForPosted q b = some .queueFull := if_pos hqueue

theorem State.lacksForPosted_of_words {u : State} {q : MemoryRequest} {b : BranchId} (hqueue : u.branches[b].queue.length < 16)
    (hwords : 256 < queueWords u.branches[b].queue + q.length.toNat) : u.lacksForPosted q b = some .words :=
  (if_neg (Nat.not_le.2 hqueue)).trans (if_pos hwords)

theorem State.lacksForPosted_of_room {u : State} {q : MemoryRequest} {b : BranchId} (hqueue : u.branches[b].queue.length < 16)
    (hwords : queueWords u.branches[b].queue + q.length.toNat ≤ 256) : u.lacksForPosted q b = none :=
  (if_neg (Nat.not_le.2 hqueue)).trans (if_neg (Nat.not_lt.2 hwords))

/-- Settles O15: a drain refuses at stage 3, a lack of room at stage 7, and the answer is all that changes. -/
theorem busyRefusalsChangeNothing : Obligations.BusyRefusalsChangeNothing := by
  refine ⟨?draining, ?nonPosted, ?posted⟩
  case draining =>
    intro k q a s u hoff hreach hdrain
    rw [exec_memoryCommand hoff, State.decodeMemory_of_reachesStage3 hreach, State.decodeNew,
      if_pos (State.draining_eq_true.2 hdrain)]
  case nonPosted =>
    intro k q a i b s u hoff hpass hb hup full quota
    rw [exec_memoryCommand_of_passes hoff hpass hb hup, State.takeIn]
    refine ⟨fun hfull => ?_, fun hfull hquota => ?_, fun hfull hquota hqueue => ?_⟩
    · rw [State.roomForEntry_of_full hfull]
    · obtain ⟨n, hn⟩ := State.exists_pickFree hfull
      rw [State.roomForEntry_of_quota hn hquota]
    · obtain ⟨n, hn⟩ := State.exists_pickFree hfull
      rw [State.roomForEntry_of_queueFull hn hquota hqueue]
  case posted =>
    intro q a i b s u hoff hpass hb hup
    have hexec : exec (.postedWrite q) s = .next (u.takeIn .wrp q a b) := exec_memoryCommand_of_passes hoff hpass hb hup
    rw [hexec, State.takeIn]
    refine ⟨fun hqueue => ?_, fun hqueue hwords => ?_⟩
    · rw [State.lacksForPosted_of_queueFull hqueue]
    · rw [State.lacksForPosted_of_words hqueue hwords]

/-- Settles O18: with room at stage 7, the FREE entry that is picked is filled at stage 8. -/
theorem nonPostedRequestIsParked : Obligations.NonPostedRequestIsParked := by
  intro k q a i b s u hoff hpass hb hup ⟨m, hm⟩ hquota hqueue
  obtain ⟨n, hn⟩ := State.exists_pickFree (fun h => h m hm)
  refine ⟨n, State.free_of_pickFree_eq_some hn, ?_⟩
  rw [exec_memoryCommand_of_passes hoff hpass hb hup, State.takeIn, State.roomForEntry_of_room hn hquota hqueue]
  rfl

/-- Settles O19: with room at stage 7, the posted item joins the queue at stage 8. -/
theorem postedWriteIsQueued : Obligations.PostedWriteIsQueued := by
  intro q a i b s u hoff hpass hb hup hqueue hwords
  have hexec : exec (.postedWrite q) s = .next (u.takeIn .wrp q a b) := exec_memoryCommand_of_passes hoff hpass hb hup
  rw [hexec, State.takeIn, State.lacksForPosted_of_room hqueue hwords]
  rfl

/-! ### A packet that cannot be taken -/

/-- Every command that takes a trunk packet hands it to one block. -/
theorem exec_of_trunkPacketOf {c : Instr} {p : TrunkPacket} (hp : trunkPacketOf c = some p) (s : State) :
    ∃ serve : State → State, exec c s = .next (s.quiet.takeRequest p serve) := by
  cases c <;> cases hp <;> exact ⟨_, rfl⟩

/-- Every command that takes a packet of a branch hands it to the branch's engine. -/
theorem exec_of_targetPacketOf {c : Instr} {b : BranchId} {p : TargetPacket} (hp : targetPacketOf c = some (b, p)) (s : State) :
    ∃ serve : State → State, exec c s = .next (s.quiet.takeTarget b p serve) := by
  cases c <;> cases hp <;> exact ⟨_, rfl⟩

/-- Settles O20: the packet is not offered, so whatever would serve it does not run. -/
theorem unofferedPacketsChangeNothing : Obligations.UnofferedPacketsChangeNothing := by
  refine ⟨fun c p s hp hno => ?_, fun c b p s hp hno => ?_⟩
  · obtain ⟨serve, hexec⟩ := exec_of_trunkPacketOf hp s
    rw [hexec, State.takeRequest_of_not_offers serve hno]
  · obtain ⟨serve, hexec⟩ := exec_of_targetPacketOf hp s
    rw [hexec, State.takeTarget_of_not_offers serve hno]

end Sys2Proof.Machine

namespace Sys2Proof.Machine

/-! O25: the write of a STAGED record. O2 and O50: the values that a hard reset leaves, and the laws at reset. -/

/-! ### WIN_STAGED_WRITE -/

/-- R3, R155: a written window record is BAD-VALUE exactly when it is valid and breaks a check of R3. -/
theorem Window.lawful_eq_false_iff {w : Window} : w.lawful = false ↔ w.valid = true ∧ (w.limit < w.base ∨ 4 < w.branch) := by
  simp only [Window.lawful, Bool.or_eq_false_iff, Bool.not_eq_false', Bool.and_eq_false_iff, decide_eq_false_iff_not,
    BitVec.not_le]

theorem State.staged_applyWrite_answerOk (u : State) (m : ObjectWrite) (i : WindowId) (ws : List Word) :
    (u.answerOk m).applyWrite (.winStaged i) ws = { u.answerOk m with staged := u.staged.set i (Window.ofWords ws) } := by
  simp only [State.applyWrite, State.answerOk, State.answer_frame]

/-- Settles O25: the MW passes the groups before its value group, whose two causes decide. -/
theorem windowRecordIsStaged : Obligations.WindowRecordIsStaged := by
  intro m i s u hw hi w bad
  have hfind : Object.find ObjectClass.winStaged.code m.index = some (.winStaged i) := by
    simp only [Object.find, ObjectClass.ofCode_code, indexIn_eq hi, Option.map_some]
  have hexec : exec (.winStagedWrite m) s = .next (s.takeWrite (objectRequest m .winStaged)) := rfl
  have hbad : u.badValue (.winStaged i) m.words = decide bad := by
    refine Bool.eq_iff_iff.2 ?_
    rw [State.badValue, Bool.not_eq_true', Window.lawful_eq_false_iff, decide_eq_true_eq]
  have hbusy : u.objectBusy (.winStaged i) m.words = u.draining := rfl
  rw [hexec, State.takeWrite_of_writes hw rfl hfind rfl, hbad, hbusy]
  refine ⟨fun hgood hidle => ?_, fun hrefused => ?_⟩
  · rw [decide_eq_false hgood, State.draining_eq_false.2 hidle, State.staged_applyWrite_answerOk]
    rfl
  · have hcause : (decide bad || u.draining) = true := by
      rwa [Bool.or_eq_true, decide_eq_true_eq, State.draining_eq_true]
    rw [if_pos hcause]
    rfl

/-! ### The values after a hard reset -/

theorem State.reset_staged_get (i : WindowId) : State.reset.staged[i] = Window.blank := by
  simp [State.reset, State.cleared]

theorem State.reset_active_get (i : WindowId) : State.reset.active[i] = Window.blank := by
  simp [State.reset, State.cleared]

theorem State.reset_entries_get (n : EntryId) : State.reset.entries[n] = .free := by
  simp [State.reset, State.cleared]

theorem State.reset_branches_get (b : BranchId) : State.reset.branches[b] = Branch.fresh := by
  simp [State.reset, State.cleared]

theorem State.reset_logs_get (r : Requester) : State.reset.logs[r] = { entries := [], drops := 0 } := by
  simp [State.reset, State.cleared]

theorem State.reset_settings_get (r : Requester) :
    State.reset.settings[r] = { quota := 2, strict := true, manager := true } := by simp [State.reset, State.cleared]

/-- R140, R162: at reset only RESTART is raised. -/
theorem State.reset_alerts_get {c : AlertKind} (h : c ≠ .restart) :
    State.reset.alerts.get c = { enabled := true, raised := none, marker := .none } := by
  cases c with
  | restart => exact absurd rfl h
  | _ => rfl

/-- Settles O2: both resets clear every block and raise RESTART, and each block is read at `State.reset`. -/
theorem hardResetLeavesResetValues : Obligations.HardResetLeavesResetValues := by
  refine ⟨fun s => rfl, fun s => rfl, fun i => ⟨State.reset_staged_get i, State.reset_active_get i⟩, rfl, State.reset_entries_get,
    fun b => ?branch, rfl, rfl, State.reset_logs_get, fun c _ hc => State.reset_alerts_get hc, rfl, rfl, rfl, rfl,
    State.reset_settings_get, rfl, rfl, rfl, rfl, rfl, rfl⟩
  case branch =>
    simp only [State.reset_branches_get]
    exact ⟨rfl, rfl, rfl, rfl, rfl, rfl, rfl, rfl, rfl, rfl, rfl, rfl, rfl, rfl, rfl⟩

/-! ### The laws at reset -/

theorem State.reset_windowLaw : State.reset.WindowLaw := fun i => by
  rw [State.reset_staged_get, State.reset_active_get]
  exact ⟨rfl, rfl⟩

theorem State.reset_managerLaw : State.reset.ManagerLaw := ⟨0, by rw [State.reset_settings_get]⟩

theorem State.reset_pairLaw : State.reset.PairLaw := fun m n h => by
  rw [State.reset_entries_get] at h
  cases h

theorem State.reset_queueLaw : State.reset.QueueLaw := fun b => by
  rw [State.reset_branches_get]
  decide

/-- R105: at reset the queue holds one notice, the RESTART of power-up, whose marker is QUEUED. -/
theorem State.reset_noticeLaw : State.reset.NoticeLaw := by
  refine ⟨by decide, fun c _ => ?_⟩
  cases c <;> exact ⟨rfl, fun h => by cases h⟩

theorem State.reset_fenceLaw : State.reset.FenceLaw := fun n x hx => by
  rw [State.reset_entries_get] at hx
  cases hx

theorem State.reset_logLaw : State.reset.LogLaw := fun r => by
  rw [State.reset_logs_get]
  decide

theorem State.reset_settingsLaw : State.reset.SettingsLaw := by
  refine ⟨fun b => ?_, fun r => ?_, by decide, by decide⟩
  · rw [State.reset_branches_get]
    decide
  · rw [State.reset_settings_get]
    decide

theorem State.reset_levelLaw : State.reset.LevelLaw := fun b => by
  rw [State.reset_branches_get]
  rfl

theorem State.reset_entryPlaces : State.reset.EntryPlaces := fun b n => by
  simp only [State.reset_branches_get, State.reset_entries_get]
  simp [Branch.fresh, Entry.queuedOn, Entry.outOn, Entry.waitingOn]

theorem State.reset_engineLaw : State.reset.EngineLaw := fun b => by
  simp only [State.reset_branches_get]
  simp [Branch.fresh, Probe.isIssued]

theorem State.reset_downLaw : State.reset.DownLaw := fun b => by
  simp only [State.reset_branches_get, State.reset_entries_get]
  simp [Branch.fresh, Probe.afterLoss, Entry.queuedOn, Entry.outOn, Entry.waitingOn]

theorem State.reset_trunkDownLaw : State.reset.TrunkDownLaw := fun _ n => by
  rw [State.reset_entries_get]
  rfl

/-- R116: the controller is IDLE at reset. -/
theorem State.reset_drainLaw : State.reset.DrainLaw := fun h => by cases h

theorem State.reset_portLaw : State.reset.PortLaw := by
  refine ⟨rfl, by decide, fun _ => ⟨rfl, rfl⟩, fun b => ?_⟩
  rw [State.reset_branches_get]
  decide

/-- Settles O50: the laws one by one, each from the values that the blocks it looks at hold at reset. -/
theorem resetMeetsTheLaws : Obligations.ResetMeetsTheLaws :=
  ⟨State.reset_windowLaw, State.reset_managerLaw, State.reset_pairLaw, State.reset_queueLaw, State.reset_noticeLaw,
    State.reset_fenceLaw, State.reset_logLaw, State.reset_settingsLaw, State.reset_levelLaw, State.reset_entryPlaces,
    State.reset_engineLaw, State.reset_downLaw, State.reset_trunkDownLaw, State.reset_drainLaw, State.reset_portLaw⟩

end Sys2Proof.Machine

namespace Sys2Proof.Machine

/-! O52 and O55: what every command makes of the entries' pairs and fences and of the queue of notices, and the two laws that follow. -/

/-! ### What decoding a memory request can do -/

/-- What the Request Decoder can make of s when it decodes the memory request q (R8 to R22): it answers, it reports a fault and answers,
it answers a repeat from its entry, it fills a FREE entry, or it takes in a posted item. -/
inductive State.Decodes (s : State) (q : MemoryRequest) : State → Prop
  | answers (body : AnswerBody) : s.Decodes q (s.answer q.requester q.tag body)
  | faults (f : FaultEntry) (body : AnswerBody) : s.Decodes q ((s.handFault f).answer q.requester q.tag body)
  | repeats (n : EntryId) (l : LiveEntry) (entry : s.entries[n] = .live l) : s.Decodes q (s.answerRepeat n l)
  | accepts (n : EntryId) (k : NpKind) (a : Address) (b : BranchId) (free : s.entries[n] = .free)
      (new : ∀ m : EntryId, s.entries[m].holds q.requester q.tag = false) (idle : s.draining = false)
      (carries : s.branches[b].carries = true) : s.Decodes q (s.accept n k q a b)
  | queues (a : Address) (b : BranchId) (idle : s.draining = false) (carries : s.branches[b].carries = true) :
      s.Decodes q (s.acceptPosted q a b)

theorem State.decodes_refuseDecode (s : State) (k : MemKind) (q : MemoryRequest) (a : Address) (c : FaultCauses) (st : CplStatus)
    (b : Option BranchId) (w : Option WindowId) : s.Decodes q (s.refuseDecode k q a c st b w) := by
  simp only [State.refuseDecode]
  split <;> exact .faults _ _

theorem State.free_of_roomForEntry {s : State} {r : Requester} {b : BranchId} {n : EntryId} (h : s.roomForEntry r b = .inr n) :
    s.entries[n] = .free := by
  unfold State.roomForEntry at h
  split at h
  · cases h
  · rename_i hn
    split at h
    · cases h
    · split at h <;> cases h
      exact State.free_of_pickFree_eq_some hn

/-- R19 to R22: stages 7 and 8, for a request that no entry holds, at a branch that carries packets. -/
theorem State.decodes_takeIn {s : State} {k : MemKind} {q : MemoryRequest} {a : Address} {b : BranchId} (idle : s.draining = false)
    (carries : s.branches[b].carries = true)
    (new : k ≠ .wrp → ∀ m : EntryId, s.entries[m].holds q.requester q.tag = false) : s.Decodes q (s.takeIn k q a b) := by
  cases k with
  | np k =>
    simp only [State.takeIn]
    split
    · exact .answers _
    · rename_i hroom
      exact .accepts _ _ _ _ (State.free_of_roomForEntry hroom) (new (by simp)) idle carries
  | wrp =>
    simp only [State.takeIn]
    split
    · exact .answers _
    · exact .queues _ _ idle carries

/-- R13 to R22: stages 3 to 8. -/
theorem State.decodes_decodeNew {s : State} {k : MemKind} {q : MemoryRequest} {a : Address}
    (new : k ≠ .wrp → ∀ m : EntryId, s.entries[m].holds q.requester q.tag = false) : s.Decodes q (s.decodeNew k q a) := by
  unfold State.decodeNew
  split
  · exact .answers _
  · rename_i hidle
    split
    · exact s.decodes_refuseDecode ..
    · rename_i i _
      split
      · rename_i b hb
        split
        · exact s.decodes_refuseDecode ..
        · rename_i hcarries
          simp only [State.decodeAt, hb]
          split
          · exact s.decodes_refuseDecode ..
          · exact State.decodes_takeIn (by simpa using hidle) (by simpa [State.unavailable] using hcarries) new
      · rename_i hsink
        simp only [State.decodeAt, hsink]
        split
        · exact s.decodes_refuseDecode ..
        · exact .answers _

theorem State.decodes_matchEntry {s : State} {n : EntryId} {l : LiveEntry} {k : NpKind} {q : MemoryRequest} {a : Address}
    (hn : s.entries[n] = .live l) : s.Decodes q (s.matchEntry n l k q a) := by
  unfold State.matchEntry
  split
  · exact .answers _
  · split
    · exact .repeats n l hn
    · exact .faults _ _

/-- R12: stage 2, and what follows when no entry holds the pair. -/
theorem State.decodes_decodeNonPosted (s : State) (k : NpKind) (q : MemoryRequest) (a : Address) :
    s.Decodes q (s.decodeNonPosted k q a) := by
  unfold State.decodeNonPosted
  split
  · rename_i hnone
    exact State.decodes_decodeNew (fun _ => State.findEntry_eq_none.1 hnone)
  · rename_i n hfound
    have hholds := List.find?_some hfound
    split
    · rename_i hfree
      simp only [hfree, Entry.holds, Bool.false_eq_true] at hholds
    · rename_i l hlive
      exact State.decodes_matchEntry hlive

theorem State.decodes_decodeMemory (s : State) (k : MemKind) (q : MemoryRequest) : s.Decodes q (s.decodeMemory k q) := by
  simp only [State.decodeMemory]
  split
  · exact .faults _ _
  · split
    · exact .faults _ _
    · split
      · exact s.decodes_decodeNonPosted _ _ _
      · exact State.decodes_decodeNew (fun h => absurd rfl h)

/-! ### Events that neither accept a request nor send a notice -/

/-- R109: the fence x, of an entry of branch x.1, names a target notice of that branch that is in the queue. -/
def State.Names (s : State) (x : BranchId × BitVec 16) : Prop := ∃ m ∈ s.notices, Notice.fromBranch x.1 m = true ∧ m.seq = x.2

/-- What most work makes of the table and the queue of notices: every entry keeps its pair or becomes FREE, a fence that an entry gets
names a notice in the queue, and the queue loses no notice. -/
structure State.Settles (s t : State) : Prop where
  pair : ∀ n : EntryId, t.entries[n].pair = none ∨ t.entries[n].pair = s.entries[n].pair
  fence : ∀ n : EntryId, ∀ x ∈ t.entries[n].fenceOf, x ∈ s.entries[n].fenceOf ∨ t.Names x
  notices : s.notices ⊆ t.notices

theorem State.Names.mono {s t : State} {x : BranchId × BitVec 16} (h : s.Names x) (hn : s.notices ⊆ t.notices) : t.Names x := by
  obtain ⟨m, hm, hx⟩ := h
  exact ⟨m, hn hm, hx⟩

/-- More work, on a table and a queue of notices that have settled. -/
theorem State.Settles.trans {s t u : State} (h : s.Settles t) (h' : t.Settles u) : s.Settles u where
  pair n := by
    rcases h'.pair n with hu | hu
    · exact .inl hu
    · rw [hu]
      exact h.pair n
  fence n x hx := by
    rcases h'.fence n x hx with ht | ht
    · exact (h.fence n x ht).imp_right (fun hs => hs.mono h'.notices)
    · exact .inr ht
  notices := List.Subset.trans h.notices h'.notices

theorem State.Settles.refl (s : State) : s.Settles s :=
  ⟨fun _ => .inr rfl, fun _ _ hx => .inl hx, List.Subset.refl _⟩

/-- Work that leaves the table alone and loses no notice. -/
theorem State.Settles.grow {s t u : State} (h : s.Settles t) (he : u.entries = t.entries) (hn : t.notices ⊆ u.notices) :
    s.Settles u :=
  h.trans ⟨fun _ => .inr (by rw [he]), fun _ _ hx => .inl (he ▸ hx), hn⟩

/-- Work that leaves the table and the queue of notices alone. -/
theorem State.Settles.congr {s t u : State} (h : s.Settles t) (he : u.entries = t.entries) (hn : u.notices = t.notices) :
    s.Settles u := h.grow he (hn ▸ List.Subset.refl _)

/-- R33: the fence that an entry takes from the queue names a notice in it. -/
theorem State.names_of_youngestFrom {s : State} {b : BranchId} {f : BitVec 16} (h : s.youngestFrom b = some f) : s.Names (b, f) := by
  obtain ⟨m, hm, rfl⟩ := Option.map_eq_some_iff.1 h
  exact ⟨m, List.mem_reverse.1 (List.mem_of_find?_eq_some hm), List.find?_some hm, rfl⟩

/-- An entry that work may put in the place of e: with the same pair, or FREE, and with a fence that e has or that names a notice. -/
structure State.Replaces (s : State) (e e' : Entry) : Prop where
  pair : e'.pair = none ∨ e'.pair = e.pair
  fence : ∀ x ∈ e'.fenceOf, x ∈ e.fenceOf ∨ s.Names x

theorem State.Replaces.refl (s : State) (e : Entry) : s.Replaces e e := ⟨.inr rfl, fun _ hx => .inl hx⟩

theorem State.Replaces.free (s : State) (e : Entry) : s.Replaces e .free := ⟨.inl rfl, fun _ hx => by cases hx⟩

/-- A live entry in another state, without a fence. -/
theorem State.Replaces.of_fenceOf {s : State} {l l' : LiveEntry} (hreq : l'.req = l.req) (hf : (Entry.live l').fenceOf = none) :
    s.Replaces (.live l) (.live l') :=
  ⟨.inr (by simp [Entry.pair, hreq]), fun x hx => by rw [hf] at hx; cases hx⟩

/-- R33: an entry that completes with the fence from the queue as it stands. -/
theorem State.Replaces.completed (s : State) (l : LiveEntry) (st : ResultStatus) (data : List Word) (limit : BitVec 16) :
    s.Replaces (.live l) (.live (l.completed st data (s.youngestFrom l.req.branch) limit)) := by
  refine ⟨.inr rfl, fun x hx => .inr ?_⟩
  obtain ⟨f, hf, rfl⟩ := Option.map_eq_some_iff.1 hx
  exact State.names_of_youngestFrom hf

section
variable {s t : State} {b : BranchId} {n : EntryId}

theorem State.Settles.setEntry {e : Entry} (h : s.Settles t) (he : t.Replaces t.entries[n] e) : s.Settles (t.setEntry n e) := by
  refine h.trans ⟨fun m => ?_, fun m x hx => ?_, List.Subset.refl _⟩
  · rw [State.setEntry_get]
    split
    · rename_i hnm
      exact hnm ▸ he.pair
    · exact .inr rfl
  · rw [State.setEntry_get] at hx
    split at hx
    · rename_i hnm
      exact hnm ▸ he.fence x hx
    · exact .inl hx

theorem State.Settles.free (h : s.Settles t) : s.Settles (t.setEntry n .free) := h.setEntry (.free t _)

theorem State.Settles.mapEntries {f : Entry → Entry} (h : s.Settles t) (hf : ∀ e, t.Replaces e (f e)) :
    s.Settles (t.mapEntries f) := by
  refine h.trans ⟨fun m => ?_, fun m x hx => ?_, List.Subset.refl _⟩
  · rw [State.mapEntries_get]
    exact (hf _).pair
  · rw [State.mapEntries_get] at hx
    exact (hf _).fence x hx

/-! ### Faults, alerts, queues -/

theorem State.Settles.emit {p : Port} {f : Frame} (h : s.Settles t) : s.Settles (t.emit p f) := h.congr rfl rfl

theorem State.Settles.modBranch {f : Branch → Branch} (h : s.Settles t) : s.Settles (t.modBranch b f) := h.congr rfl rfl

theorem State.Settles.putAlert {c : AlertKind} {a : AlertClass} (h : s.Settles t) : s.Settles (t.putAlert c a) := h.congr rfl rfl

theorem State.Settles.pushNotice {o : NoticeSource} {d : Requester} {ws : List Word} (h : s.Settles t) :
    s.Settles (t.pushNotice o d ws) := h.grow rfl (by simp)

theorem State.Settles.pushAlert {c : AlertKind} {d : Word} (h : s.Settles t) : s.Settles (t.pushAlert c d) := h.pushNotice

theorem State.Settles.raise {c : AlertKind} {d : Word} (h : s.Settles t) : s.Settles (t.raise c d) := by
  simp only [State.raise]
  split
  · exact h
  · split
    · exact h.putAlert.pushAlert
    · exact h.putAlert
    · exact h.putAlert

theorem State.Settles.handFault {f : FaultEntry} (h : s.Settles t) : s.Settles (t.handFault f) := by
  have hlog : s.Settles { t with logs := t.logs.set f.requester (t.logs[f.requester].add f) } := h.congr rfl rfl
  unfold State.handFault
  cases f.causes.ownClass with
  | none =>
    simp only
    split
    · exact hlog.raise
    · exact hlog
  | some c =>
    simp only
    split
    · exact hlog.raise.raise
    · exact hlog.raise

theorem State.Settles.syncLevel (h : s.Settles t) : s.Settles (t.syncLevel b) := by
  simp only [State.syncLevel]
  split
  · exact h.modBranch.raise
  · exact h.modBranch

theorem State.Settles.setQueue {q : List Item} (h : s.Settles t) : s.Settles (t.setQueue b q) := h.modBranch.syncLevel

theorem State.Settles.reportLost {q : List Item} (h : s.Settles t) : s.Settles (t.reportLost b q) := by
  induction q generalizing t with
  | nil => exact h
  | cons it rest ih =>
    cases it with
    | posted p => exact ih h.handFault
    | ref n => exact ih h

theorem State.Settles.answer {r : Requester} {k : Tag} {a : AnswerBody} (h : s.Settles t) : s.Settles (t.answer r k a) :=
  h.congr (by simp) (by simp)

theorem State.Settles.endCommit {o : CommitOutcome} (h : s.Settles t) : s.Settles (t.endCommit o) := by
  have hidle : s.Settles { t with controller := .idle, outcome := o } := h.congr rfl rfl
  exact hidle.raise

theorem State.Settles.commitSwap (h : s.Settles t) : s.Settles t.commitSwap := by
  have hswap : s.Settles t.swap := h.congr rfl rfl
  exact hswap.endCommit

theorem State.Settles.drainEnd (h : s.Settles t) : s.Settles t.drainEnd := by
  unfold State.drainEnd
  split
  · exact h.commitSwap
  · exact h

theorem State.Settles.handToPort {p : BranchPacket} (h : s.Settles t) : s.Settles (t.handToPort b p) := h.congr (by simp) (by simp)

/-! ### Requests -/

theorem State.Settles.answerRepeat {l : LiveEntry} (h : s.Settles t) (hn : t.entries[n] = .live l) :
    s.Settles (t.answerRepeat n l) := by
  unfold State.answerRepeat
  split
  · rename_i c hc
    split
    · exact h.free.answer
    · refine (h.setEntry ?_).answer
      rw [hn]
      exact ⟨.inr rfl, fun x hx => .inl (by simpa [Entry.fenceOf, hc] using hx)⟩
  · exact h.answer

theorem State.Settles.abandonEntry {l : LiveEntry} (h : s.Settles t) (hn : t.entries[n] = .live l) :
    s.Settles (t.abandonEntry n l) := by
  unfold State.abandonEntry
  split
  · exact h.free.setQueue
  · exact h.free.modBranch
  · exact h.setEntry (hn ▸ .of_fenceOf rfl rfl)
  · exact h.free
  · exact h

theorem State.Settles.decodeAbandon {r : Requester} {k : Tag} {extra : Nat} (h : s.Settles t) :
    s.Settles (t.decodeAbandon r k extra) := by
  unfold State.decodeAbandon
  split
  · exact h.handFault.answer
  · split
    · exact h.answer
    · split
      · exact h.answer
      · rename_i hlive
        split
        · exact h.answer
        · exact (h.abandonEntry hlive).drainEnd.answer

theorem State.Settles.refuseManagement {kind : BitVec 8} {m : ManagementRequest} {c : FaultCauses} {st : CplStatus}
    (h : s.Settles t) : s.Settles (t.refuseManagement kind m c st) := h.handFault.answer

theorem State.Settles.serveRead {m : ManagementRequest} (h : s.Settles t) : s.Settles (t.serveRead m) := by
  unfold State.serveRead
  split
  · exact h.refuseManagement
  · split
    · exact h.refuseManagement
    · rename_i o _
      have hread : s.Settles (t.afterRead o) := by cases o <;> exact h.congr rfl rfl
      exact hread.answer

/-! ### Losses and engines -/

/-- R47: the loss of a branch, which completes entries with the fence of the queue as it stands. -/
theorem State.Settles.branchLoss (h : s.Settles t) : s.Settles (t.branchLoss b) := by
  have hloss : ∀ e, t.Replaces e (e.afterBranchLoss b (t.youngestFrom b) t.collectionLimit) := by
    intro e
    cases e with
    | free => exact .refl t _
    | live l =>
      simp only [Entry.afterBranchLoss]
      split
      · rename_i hb
        simp only [LiveEntry.afterBranchLoss]
        split
        · exact .refl t _
        · exact .free t _
        · exact hb ▸ .completed t l _ _ _
      · exact .refl t _
  exact (h.mapEntries hloss).modBranch.reportLost.drainEnd

theorem State.Settles.trunkLoss (h : s.Settles t) : s.Settles t.trunkLoss := by
  have hloss : ∀ e, t.Replaces e e.afterTrunkLoss := by
    intro e
    cases e with
    | free => exact .refl t _
    | live l =>
      simp only [Entry.afterTrunkLoss]
      split
      · exact .of_fenceOf rfl rfl
      · exact .refl t _
      · exact .free t _
  have hbranches : s.Settles ((t.mapEntries Entry.afterTrunkLoss).mapBranches Branch.afterTrunkLoss) :=
    (h.mapEntries hloss).congr rfl rfl
  exact hbranches.drainEnd

theorem State.Settles.linkLost {p : Port} (h : s.Settles t) : s.Settles (t.linkLost p) := by
  cases p with
  | trunk =>
    have hdown : s.Settles { t with trunk := { link := t.trunk.link.lose, answers := [], delivered := [], lost := true } } :=
      h.congr rfl rfl
    exact hdown.trunkLoss
  | branch b =>
    simp only [State.linkLost]
    split
    · exact h.modBranch.branchLoss
    · exact h.modBranch

theorem State.Settles.issue {o : Outstanding} {ws : List Word} (h : s.Settles t) : s.Settles (t.issue b o ws) :=
  h.modBranch.handToPort

theorem State.Settles.issueEntry (h : s.Settles t) : s.Settles (t.issueEntry b n) := by
  unfold State.issueEntry
  split
  · rename_i hlive
    exact (h.setEntry (hlive ▸ .of_fenceOf rfl rfl)).issue
  · exact h

theorem State.Settles.choose (h : s.Settles t) : s.Settles (t.choose b) := by
  unfold State.choose
  split
  · rename_i src _
    cases src with
    | probe op a => exact h.modBranch.issue
    | slot n => exact h.modBranch.issueEntry
    | headRef n => exact h.setQueue.issueEntry
    | headPosted p => exact h.modBranch.issue
  · exact h

theorem State.Settles.complete {l : LiveEntry} {st : ResultStatus} {data : List Word} (h : s.Settles t)
    (hn : t.entries[n] = .live l) : s.Settles (t.complete n l st data) := h.setEntry (hn ▸ .completed t l _ _ _)

theorem State.Settles.endEntry {e : Ending} (h : s.Settles t) : s.Settles (t.endEntry b n e) := by
  unfold State.endEntry
  split
  · exact h
  · rename_i hlive
    split
    · cases e with
      | later =>
        simp only [State.endIssued]
        split
        · exact (h.setEntry (hlive ▸ .of_fenceOf rfl rfl)).modBranch
        · exact h.complete hlive
      | done | refuse | timeout => exact h.complete hlive
    · exact h.free
    · exact h

theorem State.Settles.reportDrop {p : PostedItem} {r : DropReason} (h : s.Settles t) : s.Settles (t.reportDrop b p r) :=
  h.handFault

theorem State.Settles.dropHead {p : PostedItem} {rest : List Item} {r : DropReason} (h : s.Settles t) :
    s.Settles (t.dropHead b p rest r) := h.setQueue.reportDrop

theorem State.Settles.endPosted {e : Ending} (h : s.Settles t) : s.Settles (t.endPosted b e) := by
  unfold State.endPosted
  split
  · cases e with
    | done => exact h.setQueue
    | later =>
      simp only
      split
      · exact h.modBranch
      · exact h.dropHead
    | refuse | timeout => exact h.dropHead
  · exact h

theorem State.Settles.endIssue {o : Outstanding} {e : Ending} (h : s.Settles t) : s.Settles (t.endIssue b o e) := by
  have hclear : s.Settles (t.clearOutstanding b) := h.modBranch
  cases o with
  | entry n => exact hclear.endEntry.drainEnd
  | posted => exact hclear.endPosted.drainEnd
  | probe =>
    simp only [State.endIssue]
    exact hclear.modBranch

theorem State.Settles.takeAnswer {a : TargetAnswer} {count : BitVec 6} {ws : List Word} (h : s.Settles t) :
    s.Settles (t.takeAnswer b a count ws) := by
  unfold State.takeAnswer
  split
  · exact h
  · split
    · exact h.endIssue
    · exact h

theorem State.Settles.takeNotice {count : BitVec 3} {code : BitVec 8} {ws : List Word} (h : s.Settles t) :
    s.Settles (t.takeNotice b count code ws) := by
  unfold State.takeNotice
  split
  · exact h
  · split
    · exact h.pushNotice.handToPort
    · exact h.handToPort

theorem State.Settles.serveTarget {p : TargetPacket} (h : s.Settles t) : s.Settles (t.serveTarget b p) := by
  cases p with
  | answer a count ws => exact h.takeAnswer
  | notice count code ws => exact h.takeNotice
  | other kind => exact h

/-! ### Links and timers -/

variable {p : Port}

theorem State.Settles.modLink {f : LinkPort → LinkPort} (h : s.Settles t) : s.Settles (t.modLink p f) :=
  h.congr (by simp [State.modLink]) (by simp [State.modLink])

theorem State.Settles.comeUp (h : s.Settles t) : s.Settles (t.comeUp p) := by
  have hraised : s.Settles (t.setLink p (t.link p).raised) := h.congr (by simp) (by simp)
  cases p with
  | branch b => exact hraised
  | trunk =>
    simp only [State.comeUp]
    split
    · refine State.Settles.raise ?_
      exact hraised.congr rfl rfl
    · exact hraised

theorem State.Settles.upIfTrained (h : s.Settles t) : s.Settles (t.upIfTrained p) := by
  unfold State.upIfTrained
  split
  · exact h.comeUp
  · exact h

theorem State.Settles.receiveData {k : BitVec 8} {ws : List Word} (h : s.Settles t) : s.Settles (t.receiveData p k ws) := by
  have hdeliver : s.Settles (t.deliver p ws) := by cases p <;> exact h.congr rfl rfl
  simp only [State.receiveData]
  split
  · split
    · exact hdeliver.modLink.emit
    · exact h
  · split <;> exact h.emit

theorem State.Settles.receiveAck {k : BitVec 8} (h : s.Settles t) : s.Settles (t.receiveAck p k) := by
  have hroom : ∀ u : State, s.Settles u → s.Settles (u.roomFreed p) := fun u hu => by
    cases p with
    | trunk => exact hu
    | branch b => exact hu.congr (by simp [State.roomFreed]) (by simp [State.roomFreed])
  unfold State.receiveAck
  split
  · exact h
  · exact hroom _ h.modLink

theorem State.Settles.receive {f : Frame} (h : s.Settles t) : s.Settles (t.receive p f) := by
  simp only [State.receive]
  split
  · cases f with
    | data k ws => exact h.modLink.receiveData
    | ack k => exact h.modLink.receiveAck
    | resend k => exact h.modLink.congr rfl rfl
    | train ready => exact h.modLink.linkLost
  · cases f with
    | train ready =>
      simp only
      split
      · exact h.modLink.modLink.upIfTrained
      · exact h.modLink
    | data | ack | resend => exact h.modLink.modLink

theorem State.Settles.receiveFailure (h : s.Settles t) : s.Settles (t.receiveFailure p) := by
  simp only [State.receiveFailure]
  split
  · split
    · exact h.modLink.emit.linkLost
    · exact h.modLink.emit
  · exact h.modLink.modLink

theorem State.Settles.receiveWords {raw : List Word} (h : s.Settles t) : s.Settles (t.receiveWords p raw) := by
  unfold State.receiveWords
  split
  · exact h.receive
  · exact h.receiveFailure

theorem State.Settles.expireAck (h : s.Settles t) : s.Settles (t.expireAck p) := by
  simp only [State.expireAck]
  split
  · split
    · exact h.linkLost
    · exact h.modLink.congr rfl rfl
  · exact h

theorem State.Settles.sendTrain (h : s.Settles t) : s.Settles (t.sendTrain p) := by
  simp only [State.sendTrain]
  split
  · exact h.emit.modLink.upIfTrained
  · exact h

theorem State.Settles.signalLost (h : s.Settles t) : s.Settles (t.signalLost p) := by
  unfold State.signalLost
  split
  · exact h.linkLost
  · exact h

theorem State.Settles.expireCollection (h : s.Settles t) : s.Settles (t.expireCollection n) := by
  unfold State.expireCollection
  split
  · split
    · exact h.free.handFault
    · exact h
  · exact h

theorem State.Settles.expireDrain (h : s.Settles t) : s.Settles t.expireDrain := by
  unfold State.expireDrain
  split
  · exact h.endCommit
  · exact h

/-! ### Management writes -/

theorem State.Settles.commitAction {action : BitVec 4} (h : s.Settles t) : s.Settles (t.commitAction action) := by
  have hdrain : s.Settles t.startDrain := by
    unfold State.startDrain
    split
    · exact h.commitSwap
    · exact h.congr rfl rfl
  have hcancel : s.Settles t.cancelDrain := by
    unfold State.cancelDrain
    split
    · exact h.endCommit
    · exact h
  unfold State.commitAction
  split
  · exact h.commitSwap
  · split
    · exact hdrain
    · split
      · exact hcancel
      · split <;> exact h.congr rfl rfl

theorem State.Settles.applyFlags {hold reset : Bool} (h : s.Settles t) : s.Settles (t.applyFlags b hold reset) := by
  simp only [State.applyFlags]
  split
  · split
    · exact h.modBranch.modBranch.branchLoss
    · exact h.modBranch.modBranch
  · exact h.modBranch

theorem State.Settles.writeBranch {v : BranchSettings} (h : s.Settles t) : s.Settles (t.writeBranch b v) := by
  simp only [State.writeBranch]
  split
  · exact h.modBranch.applyFlags
  · exact h.modBranch.syncLevel.applyFlags

theorem State.Settles.foldl {α : Type} {f : State → α → State} (hf : ∀ u a, s.Settles u → s.Settles (f u a)) (as : List α)
    (h : s.Settles t) : s.Settles (as.foldl f t) := by
  induction as generalizing t with
  | nil => exact h
  | cons a as ih => exact ih (hf t a h)

theorem State.Settles.enable {c : AlertKind} {flag : Bool} (h : s.Settles t) : s.Settles (t.enable c flag) := by
  simp only [State.enable]
  split
  · exact h.putAlert.pushAlert
  · exact h.putAlert

theorem State.Settles.acknowledge {ws : List Word} (h : s.Settles t) : s.Settles (t.acknowledge ws) := by
  have hfold := State.Settles.foldl (f := fun u c => if ackFlag ws c then u.putAlert c (u.alerts.get c).acknowledge else u)
    (fun u c hu => by
      split
      · exact hu.putAlert
      · exact hu) AlertKind.all h
  simp only [State.acknowledge]
  split
  · exact hfold.raise
  · exact hfold

theorem State.Settles.writeAlert {ws : List Word} (h : s.Settles t) : s.Settles (t.writeAlert ws) := by
  have hdest : s.Settles { t with alertDest := alertDestOf ws } := h.congr rfl rfl
  unfold State.writeAlert
  exact State.Settles.foldl (fun u c hu => hu.enable) AlertKind.all hdest.acknowledge

end

/-! ### One command -/

/-- R107: what the departure of a notice makes of an entry. -/
def Notice.unfence (m : Notice) (e : Entry) : Entry :=
  match m.source with
  | .target b _ => e.unfence b m.seq
  | .alert _ => e

/-- What one command makes of the entries and the queue of notices of s: it settles; it accepts a request whose pair no entry holds
(R27); it sends the notice at the head of the queue (R107); or it empties the table (R25). -/
inductive State.TableStep (s t : State) : Prop
  | settles (work : s.Settles t)
  | accepts (n : EntryId) (l : LiveEntry) (new : ∀ m : EntryId, s.entries[m].holds l.req.requester l.req.tag = false)
      (queued : l.state = .queued) (entries : t.entries = s.entries.set n (.live l)) (notices : s.notices ⊆ t.notices)
  | sends (m : Notice) (rest : List Notice) (head : s.notices = m :: rest)
      (entries : ∀ n : EntryId, t.entries[n] = m.unfence s.entries[n]) (notices : rest ⊆ t.notices)
  | clears (entries : ∀ n : EntryId, t.entries[n] = .free)

/-- Work before an event that leaves the table and the notices alone does not change what the event makes of them. -/
theorem State.TableStep.congr_left {s u t : State} (he : u.entries = s.entries) (hn : u.notices = s.notices) (h : u.TableStep t) :
    s.TableStep t := by
  cases h with
  | settles work => exact .settles (((State.Settles.refl s).congr he hn).trans work)
  | accepts n l new queued entries notices => exact .accepts n l (he ▸ new) queued (he ▸ entries) (hn ▸ notices)
  | sends m rest head entries notices => exact .sends m rest (hn ▸ head) (he ▸ entries) notices
  | clears entries => exact .clears entries

theorem State.notices_setQueue (s : State) (b : BranchId) (q : List Item) : s.notices ⊆ (s.setQueue b q).notices :=
  (State.Settles.refl s).setQueue.notices

/-- R21: the acceptance of a request whose pair no entry holds. -/
theorem State.tableStep_accept {s : State} {n : EntryId} {k : NpKind} {q : MemoryRequest} {a : Address} {b : BranchId}
    (new : ∀ m : EntryId, s.entries[m].holds q.requester q.tag = false) : s.TableStep (s.accept n k q a b) := by
  refine .accepts n
    { req :=
        { requester := q.requester, tag := q.tag, kind := k, address := a, length := q.length, data := q.data, branch := b,
          generation := s.generation }
      attempts := 0, state := .queued } new rfl ?entries ?notices
  case entries =>
    simp only [State.accept, State.answer_frame, State.appendItem_frame]
    rfl
  case notices =>
    simp only [State.accept, State.answer_frame, State.appendItem]
    refine List.Subset.trans ?_ (State.notices_setQueue _ _ _)
    exact List.Subset.refl _

theorem State.tableStep_decodeMemory (s : State) (k : MemKind) (q : MemoryRequest) : s.TableStep (s.decodeMemory k q) := by
  have hdecodes := s.decodes_decodeMemory k q
  have hs := State.Settles.refl s
  generalize s.decodeMemory k q = t at hdecodes ⊢
  cases hdecodes with
  | answers body => exact .settles hs.answer
  | faults f body => exact .settles hs.handFault.answer
  | repeats n l hn => exact .settles (hs.answerRepeat hn)
  | accepts n k a b _ new _ _ => exact State.tableStep_accept new
  | queues a b _ _ => exact .settles hs.setQueue.answer

/-- R143: the departure of an alert notice leaves the table alone. -/
theorem State.alertDeparts_entries (s : State) (c : AlertKind) : (s.alertDeparts c).entries = s.entries := by
  simp only [State.alertDeparts]
  split <;> simp

/-- R107: the departure of a notice takes its fence away from an entry. -/
theorem State.noticeDeparts_entries (s : State) (m : Notice) (n : EntryId) :
    (s.noticeDeparts m).entries[n] = m.unfence s.entries[n] := by
  unfold State.noticeDeparts Notice.unfence
  cases m.source with
  | target b code => exact State.mapEntries_get s _ n
  | alert c => simp only [State.alertDeparts_entries]

theorem State.noticeDeparts_notices (s : State) (m : Notice) : s.notices ⊆ (s.noticeDeparts m).notices := by
  unfold State.noticeDeparts
  cases m.source with
  | target b code => exact List.Subset.refl _
  | alert c =>
    simp only [State.alertDeparts]
    split <;> simp [State.pushAlert]

/-- R106, R107: the Trunk Port's choice sends an answer, or the notice at the head, or nothing. -/
theorem State.tableStep_transmit (s : State) : s.TableStep s.transmit := by
  unfold State.transmit
  split
  · split
    · exact .settles ((State.Settles.refl s).congr (by simp) (by simp))
    · rename_i m rest _ hhead
      refine .sends m rest hhead (fun n => ?_) ?_
      · simp only [State.noticeDeparts_entries, State.sendData_frame]
      · refine List.Subset.trans ?_ (State.noticeDeparts_notices _ m)
        simp
    · exact .settles (.refl s)
  · exact .settles (.refl s)

theorem State.tableStep_resetAll (s : State) (c : ResetCause) (p : TrunkPort) : s.TableStep (s.resetAll c p) :=
  .clears (fun n => by simp [State.resetAll, State.cleared])

theorem State.tableStep_applyWrite (s : State) (o : Object) (ws : List Word) : s.TableStep (s.applyWrite o ws) := by
  have hs := State.Settles.refl s
  cases o with
  | commit => exact .settles hs.commitAction
  | branch b => exact .settles hs.writeBranch
  | probe b =>
    simp only [State.applyWrite]
    split
    · exact .settles hs.modBranch
    · exact .settles hs
  | alert => exact .settles hs.writeAlert
  | part => exact s.tableStep_resetAll _ _
  | winStaged | req | timing | ident | winActive | fault | entry => exact .settles (hs.congr rfl rfl)

theorem State.tableStep_serveWrite (s : State) (m : ManagementRequest) : s.TableStep (s.serveWrite m) := by
  have hrefuse : ∀ c st, s.TableStep (s.refuseManagement kindMw m c st) := fun c st =>
    .settles (State.Settles.refl s).refuseManagement
  simp only [State.serveWrite]
  split
  · exact hrefuse _ _
  · split
    · exact hrefuse _ _
    · split
      · exact hrefuse _ _
      · split
        · exact hrefuse _ _
        · exact .congr_left (by simp) (by simp) (State.tableStep_applyWrite (s.answer m.requester m.tag (.completion .ok [])) _ _)

theorem State.tableStep_takeRequest {s : State} {p : TrunkPacket} {serve : State → State} (h : ∀ u : State, u.TableStep (serve u)) :
    s.TableStep (s.quiet.takeRequest p serve) :=
  State.takeRequest_elim (P := s.TableStep) (.settles ((State.Settles.refl s).congr rfl rfl))
    (fun d => .congr_left (u := { s.quiet with trunk := { s.quiet.trunk with delivered := d } }) rfl rfl (h _))

theorem State.tableStep_takeTarget {s : State} {b : BranchId} {p : TargetPacket} {serve : State → State}
    (h : ∀ u : State, s.Settles u → s.Settles (serve u)) : s.TableStep (s.quiet.takeTarget b p serve) := by
  have hquiet : s.Settles s.quiet := (State.Settles.refl s).congr rfl rfl
  exact State.takeTarget_elim (P := s.TableStep) (.settles hquiet) (.settles (h _ hquiet)) (fun _ => .settles (h _ hquiet.modBranch))

/-- Every command makes one of these changes to the table and the queue of notices. -/
theorem exec_tableStep {c : Instr} {s t : State} (h : exec c s = .next t) : s.TableStep t := by
  have hquiet : s.Settles s.quiet := (State.Settles.refl s).congr rfl rfl
  cases c <;> (cases h)
  case read | confirmedWrite | postedWrite | exchange => exact State.tableStep_takeRequest (fun u => u.tableStep_decodeMemory _ _)
  case abandon => exact State.tableStep_takeRequest (fun u => .settles (State.Settles.refl u).decodeAbandon)
  case unknownKind => exact State.tableStep_takeRequest (fun u => .settles (State.Settles.refl u).handFault.answer)
  case managementRead => exact State.tableStep_takeRequest (fun u => .settles (State.Settles.refl u).serveRead)
  case managementWrite | winStagedWrite | immediate | drain | cancel | revert | reqWrite | take | branchSettingsWrite | holdFlagSet
      | holdFlagCleared | resetFlagSet | resetFlagCleared | probeRead | probeWrite | alertAcknowledge | alertEnable | timingWrite
      | partReset =>
    exact State.tableStep_takeRequest (fun u => u.tableStep_serveWrite _)
  case hardReset | powerUp => exact .congr_left (u := s.quiet) rfl rfl (State.tableStep_resetAll _ _ _)
  case engineChoice => exact .settles hquiet.choose
  case done | later | refuse => exact State.tableStep_takeTarget (fun u hu => hu.takeAnswer)
  case bntc => exact State.tableStep_takeTarget (fun u hu => hu.takeNotice)
  case strayTargetPacket => exact State.tableStep_takeTarget (fun u hu => hu.serveTarget)
  case responseTimeout =>
    split
    · exact .settles hquiet.endIssue
    · exact .settles hquiet
  case retryIntervalPasses | backoffIntervalEnds => exact .settles hquiet.modBranch
  case collectionTimerExpiry => exact .settles hquiet.expireCollection
  case drainTimerExpiry => exact .settles hquiet.expireDrain
  case transmitChoice => exact .congr_left (u := s.quiet) rfl rfl (State.tableStep_transmit _)
  case dataFrame =>
    split
    · exact .settles hquiet.receiveFailure
    · exact .settles hquiet.receive
  case ack | resend | train => exact .settles hquiet.receive
  case trainFrameSend => exact .settles hquiet.sendTrain
  case checkFailure => exact .settles hquiet.receiveWords
  case acknowledgementTimerExpiry => exact .settles hquiet.expireAck
  case signalAbsent => exact .settles hquiet.signalLost

/-! ### The two laws -/

theorem Entry.holds_iff_pair {e : Entry} {r : Requester} {t : Tag} : e.holds r t = true ↔ e.pair = some (r, t) := by
  cases e <;> simp [Entry.holds, Entry.pair]

theorem Entry.mem_fenceOf {e : Entry} {x : BranchId × BitVec 16} :
    x ∈ e.fenceOf ↔ ∃ l c, e = .live l ∧ l.state = .complete c ∧ l.req.branch = x.1 ∧ c.fence = some x.2 := by
  constructor
  · intro hx
    cases e with
    | free => cases hx
    | live l =>
      cases hl : l.state with
      | complete c =>
        simp only [Entry.fenceOf, hl] at hx
        obtain ⟨f, hf, rfl⟩ := Option.map_eq_some_iff.1 hx
        exact ⟨l, c, rfl, hl, rfl, hf⟩
      | queued | issued | waiting | disowned =>
        simp only [Entry.fenceOf, hl] at hx
        cases hx
  · rintro ⟨l, c, rfl, hl, hb, hf⟩
    simp [Entry.fenceOf, hl, hf, hb]

/-- What a departure makes of an entry: nothing, when the entry's fence does not name the notice; or the fence is taken away. -/
theorem Notice.unfence_cases (m : Notice) (e : Entry) :
    m.unfence e = e ∧ (∀ x ∈ e.fenceOf, ¬ (Notice.fromBranch x.1 m = true ∧ m.seq = x.2))
      ∨ (m.unfence e).pair = e.pair ∧ (m.unfence e).fenceOf = none := by
  cases hm : m.source with
  | alert c =>
    refine .inl ⟨by simp only [Notice.unfence, hm], fun x _ h => ?_⟩
    simp only [Notice.fromBranch, hm, Bool.false_eq_true, false_and] at h
  | target b code =>
    have hunfence : m.unfence e = e.unfence b m.seq := by simp only [Notice.unfence, hm]
    by_cases hnames : (b, m.seq) ∈ e.fenceOf
    · obtain ⟨l, c, rfl, hl, hb, hf⟩ := Entry.mem_fenceOf.1 hnames
      refine .inr ?_
      rw [hunfence]
      simp only [Entry.unfence, hl, hb, hf, and_self, if_true]
      exact ⟨rfl, rfl⟩
    · refine .inl ⟨?_, ?_⟩
      · rw [hunfence]
        cases e with
        | free => rfl
        | live l =>
          cases hl : l.state with
          | complete c =>
            have hne : ¬ (l.req.branch = b ∧ c.fence = some m.seq) := fun ⟨hb, hf⟩ =>
              hnames (Entry.mem_fenceOf.2 ⟨l, c, rfl, hl, hb, hf⟩)
            simp only [Entry.unfence, hl, if_neg hne]
          | queued | issued | waiting | disowned => simp only [Entry.unfence, hl]
      · rintro ⟨b', f⟩ hx ⟨hb, hf⟩
        simp only [Notice.fromBranch, hm, beq_iff_eq] at hb
        exact hnames (by rw [hb, hf]; exact hx)

theorem Notice.pair_unfence (m : Notice) (e : Entry) : (m.unfence e).pair = e.pair := by
  rcases m.unfence_cases e with ⟨h, -⟩ | ⟨h, -⟩
  · rw [h]
  · exact h

theorem State.PairLaw.of_tableStep {s t : State} (hs : s.PairLaw) (h : s.TableStep t) : t.PairLaw := by
  intro m n hm hmn
  cases h with
  | settles work =>
    have hkept : ∀ k : EntryId, t.entries[k].pair.isSome = true → t.entries[k].pair = s.entries[k].pair := fun k hk =>
      (work.pair k).resolve_left (fun hnone => by rw [hnone] at hk; cases hk)
    have em := hkept m hm
    have en := hkept n (hmn ▸ hm)
    exact hs m n (em ▸ hm) (by rw [← em, ← en, hmn])
  | accepts k l new queued entries notices =>
    have hset : ∀ j : EntryId, t.entries[j] = if k = j then .live l else s.entries[j] := fun j => by
      rw [entries]
      exact State.setEntry_get s k j (.live l)
    have hnew : ∀ j : EntryId, s.entries[j].pair ≠ (Entry.live l).pair := fun j e => by
      have hholds := Entry.holds_iff_pair.2 e
      rw [new j] at hholds
      cases hholds
    rw [hset] at hm
    rw [hset m, hset n] at hmn
    by_cases hkm : k = m <;> by_cases hkn : k = n
    · exact hkm.symm.trans hkn
    · rw [if_pos hkm, if_neg hkn] at hmn
      exact absurd hmn.symm (hnew n)
    · rw [if_neg hkm, if_pos hkn] at hmn
      exact absurd hmn (hnew m)
    · rw [if_neg hkm] at hm hmn
      rw [if_neg hkn] at hmn
      exact hs m n hm hmn
  | sends x rest head entries notices =>
    have hpair : ∀ k : EntryId, t.entries[k].pair = s.entries[k].pair := fun k => by rw [entries, Notice.pair_unfence]
    exact hs m n (hpair m ▸ hm) (by rw [← hpair m, ← hpair n, hmn])
  | clears entries =>
    rw [entries] at hm
    cases hm

theorem State.FenceLaw.of_tableStep {s t : State} (hs : s.FenceLaw) (h : s.TableStep t) : t.FenceLaw := by
  intro n x hx
  cases h with
  | settles work =>
    rcases work.fence n x hx with hold | hnew
    · exact State.Names.mono (hs n x hold) work.notices
    · exact hnew
  | accepts k l new queued entries notices =>
    have hget : t.entries[n] = if k = n then .live l else s.entries[n] := by
      rw [entries]
      exact State.setEntry_get s k n (.live l)
    rw [hget] at hx
    split at hx
    · simp only [Entry.fenceOf, queued] at hx
      cases hx
    · exact State.Names.mono (hs n x hx) notices
  | sends m rest head entries notices =>
    rw [entries] at hx
    rcases m.unfence_cases s.entries[n] with ⟨hsame, hother⟩ | ⟨-, hnone⟩
    · rw [hsame] at hx
      obtain ⟨y, hy, hnames⟩ := hs n x hx
      rw [head] at hy
      rcases List.mem_cons.1 hy with rfl | hy
      · exact absurd hnames (hother x hx)
      · exact ⟨y, notices hy, hnames⟩
    · rw [hnone] at hx
      cases hx
  | clears entries =>
    rw [entries] at hx
    cases hx

/-- Settles O52: every command changes the table only as `State.TableStep` says; an acceptance, the one change that adds a pair, adds one
that no entry holds. -/
theorem pairLawIsKept : Obligations.PairLawIsKept :=
  kept_of_exec (fun _ _ hs => hs) (fun _ _ _ hs h => hs.of_tableStep (exec_tableStep h))

/-- Settles O55: a completion takes its fence from the queue as it stands, and a notice that leaves the queue takes its fences with it. -/
theorem fenceLawIsKept : Obligations.FenceLawIsKept :=
  kept_of_exec (fun _ _ hs => hs) (fun _ _ _ hs h => hs.of_tableStep (exec_tableStep h))

end Sys2Proof.Machine

namespace Sys2Proof.Machine

/-! O57: where entries, posted items and probes stand. The laws look at a part of the state only, the work in progress; most operations
leave it alone, and each of the others is one change of one branch and one entry. -/

/-! ### The work in progress -/

/-- What the laws of the places of work look at in a branch. -/
structure BranchWork where
  queue : List Item
  outstanding : Option Outstanding
  timer : Bool
  slot : Option EntryId
  probe : Probe
  up : Bool
  reset : Bool

/-- The work of a branch. -/
def Branch.work (br : Branch) : BranchWork :=
  { queue := br.queue, outstanding := br.outstanding, timer := br.responseTimer.isSome, slot := br.slot.map (·.entry)
    probe := br.probe, up := br.link.up, reset := br.reset }

/-- What the laws of the places of work look at. -/
structure Work where
  entries : EntryId → Entry
  branches : BranchId → BranchWork
  trunkUp : Bool
  draining : Bool

/-- The work of a state. -/
def State.work (s : State) : Work :=
  { entries := fun n => s.entries[n], branches := fun b => s.branches[b].work, trunkUp := s.trunk.link.up, draining := s.draining }

/-- An entry replaced. -/
def Work.setEntry (w : Work) (n : EntryId) (e : Entry) : Work := { w with entries := Function.update w.entries n e }

/-- The work of a branch replaced. -/
def Work.setBranch (w : Work) (b : BranchId) (v : BranchWork) : Work := { w with branches := Function.update w.branches b v }

/-! ### The laws on the work -/

/-- R24: the places where a live entry can stand besides the table. -/
inductive Place where
  | queue
  | slot
  | engine
  deriving DecidableEq

/-- R24: the branch and the place of an entry that is QUEUED, WAITING, ISSUED or DISOWNED. -/
def Entry.place : Entry → Option (BranchId × Place)
  | .free => none
  | .live l =>
    match l.state with
    | .queued => some (l.req.branch, .queue)
    | .waiting => some (l.req.branch, .slot)
    | .issued => some (l.req.branch, .engine)
    | .disowned => some (l.req.branch, .engine)
    | .complete _ => none

theorem Entry.queuedOn_iff {e : Entry} {b : BranchId} : e.queuedOn b = true ↔ e.place = some (b, .queue) := by
  cases e with
  | free => simp [Entry.queuedOn, Entry.place]
  | live l => cases hl : l.state <;> simp [Entry.queuedOn, Entry.place, hl]

theorem Entry.waitingOn_iff {e : Entry} {b : BranchId} : e.waitingOn b = true ↔ e.place = some (b, .slot) := by
  cases e with
  | free => simp [Entry.waitingOn, Entry.place]
  | live l => cases hl : l.state <;> simp [Entry.waitingOn, Entry.place, hl]

theorem Entry.outOn_iff {e : Entry} {b : BranchId} : e.outOn b = true ↔ e.place = some (b, .engine) := by
  cases e with
  | free => simp [Entry.outOn, Entry.place]
  | live l => cases hl : l.state <;> simp [Entry.outOn, Entry.place, hl]

theorem Entry.counted_iff {e : Entry} : e.counted = true ↔ e.place.isSome = true := by
  cases e with
  | free => simp [Entry.counted, Entry.place]
  | live l => cases hl : l.state <;> simp [Entry.counted, Entry.place, hl]

/-- R24: the branch b with the work v holds entry n exactly as the entry's place p says. -/
structure BranchWork.Locates (v : BranchWork) (b : BranchId) (n : EntryId) (p : Option (BranchId × Place)) : Prop where
  queue : v.queue.count (.ref n) = if p = some (b, .queue) then 1 else 0
  engine : v.outstanding = some (.entry n) ↔ p = some (b, .engine)
  slot : v.slot = some n ↔ p = some (b, .slot)

/-- A branch that holds nothing holds no entry. -/
theorem BranchWork.Locates.ne_of_empty {v : BranchWork} {b : BranchId} {n : EntryId} {p : Option (BranchId × Place)}
    (h : v.Locates b n p) (hq : v.queue = []) (ho : v.outstanding = none) (hs : v.slot = none) (k : Place) : p ≠ some (b, k) := by
  rintro rfl
  cases k with
  | queue =>
    have hcount := h.queue
    rw [hq, if_pos rfl] at hcount
    cases hcount
  | slot =>
    have hslot := h.slot.2 rfl
    rw [hs] at hslot
    cases hslot
  | engine =>
    have hout := h.engine.2 rfl
    rw [ho] at hout
    cases hout

/-- R58, R79, R81, R84, R87, R89, R94: the laws of one branch (`State.EngineLaw`, and `State.DownLaw` but for the entries). -/
structure BranchWork.Sound (v : BranchWork) : Prop where
  posted : v.outstanding = some .posted ↔ v.queue.head?.any Item.isSent = true
  behind : ∀ it ∈ v.queue.tail, it.waits = true
  probe : v.outstanding = some .probe ↔ v.probe.isIssued = true
  timer : v.timer = v.outstanding.isSome
  slot : ∀ n, v.outstanding = some (.entry n) → v.slot = none
  stopped : v.reset = true → v.up = false
  down : v.up = false → v.queue = [] ∧ v.outstanding = none ∧ v.slot = none ∧ v.probe.afterLoss = v.probe

/-- Every branch but b meets its laws, and while the trunk is DOWN only DISOWNED entries live (R48). -/
structure Work.PlacedBut (w : Work) (b : BranchId) : Prop where
  sound : ∀ c, c ≠ b → (w.branches c).Sound
  places : ∀ c, c ≠ b → ∀ n, (w.branches c).Locates c n (w.entries n).place
  trunk : w.trunkUp = false → ∀ n, (w.entries n).goneOrDisowned = true

/-- Every branch meets its laws, and while the trunk is DOWN only DISOWNED entries live (R48). -/
structure Work.Placed (w : Work) : Prop where
  sound : ∀ b, (w.branches b).Sound
  places : ∀ b n, (w.branches b).Locates b n (w.entries n).place
  trunk : w.trunkUp = false → ∀ n, (w.entries n).goneOrDisowned = true

/-- R121: some entry or posted item counts in the drain condition. -/
def Work.Counts (w : Work) : Prop :=
  (∃ n, (w.entries n).place.isSome = true) ∨ ∃ b, ∃ it ∈ (w.branches b).queue, it.isPosted = true

/-- The places of work are right, and a drain has work left. -/
structure State.InPlace (s : State) : Prop where
  placed : s.work.Placed
  drains : s.draining = true → s.work.Counts

theorem State.drained_eq_false_iff {s : State} : s.drained = false ↔ s.work.Counts := by
  have hentries : s.entries.toList.any Entry.counted = true ↔ ∃ n : EntryId, s.entries[n].counted = true := by
    simp only [List.any_eq_true, Vector.mem_toList_iff, Vector.mem_iff_getElem]
    exact ⟨fun ⟨_, ⟨i, hi, rfl⟩, h⟩ => ⟨⟨i, hi⟩, h⟩, fun ⟨n, h⟩ => ⟨_, ⟨n.val, n.isLt, rfl⟩, h⟩⟩
  have hbranches : s.branches.toList.any (fun br => br.queue.any Item.isPosted) = true
      ↔ ∃ b : BranchId, ∃ it ∈ s.branches[b].queue, it.isPosted = true := by
    simp only [List.any_eq_true, Vector.mem_toList_iff, Vector.mem_iff_getElem]
    exact ⟨fun ⟨_, ⟨i, hi, rfl⟩, h⟩ => ⟨⟨i, hi⟩, h⟩, fun ⟨b, h⟩ => ⟨_, ⟨b.val, b.isLt, rfl⟩, h⟩⟩
  rw [State.drained, Bool.and_eq_false_iff, Bool.not_eq_false', Bool.not_eq_false', hentries, hbranches]
  simp only [Work.Counts, State.work, Entry.counted_iff]
  rfl

/-- The five laws of the claim are those on the work. -/
theorem State.inPlace_iff {s : State} :
    (s.EntryPlaces ∧ s.EngineLaw ∧ s.DownLaw ∧ s.TrunkDownLaw ∧ s.DrainLaw) ↔ s.InPlace := by
  constructor
  · rintro ⟨hplaces, hengine, hdown, htrunk, hdrain⟩
    refine ⟨⟨fun b => ?sound, fun b n => ?places, htrunk⟩, fun h => State.drained_eq_false_iff.1 (hdrain h)⟩
    case sound =>
      obtain ⟨posted, behind, probe, timer, slot⟩ := hengine b
      obtain ⟨stopped, down⟩ := hdown b
      refine ⟨posted, behind, probe, timer, fun n hn => ?_, stopped, fun hup => ?_⟩
      · simp only [State.work, Branch.work, slot n hn, Option.map_none]
      · obtain ⟨hq, ho, hs, hp, -⟩ := down hup
        exact ⟨hq, ho, by simp only [State.work, Branch.work, hs, Option.map_none], hp⟩
    case places =>
      obtain ⟨hq, ho, hs⟩ := hplaces b n
      refine ⟨?_, by rw [← Entry.outOn_iff]; exact ho, by rw [← Entry.waitingOn_iff]; exact hs⟩
      simp only [← Entry.queuedOn_iff]
      exact hq
  · rintro ⟨⟨hsound, hplaces, htrunk⟩, hdrain⟩
    refine ⟨fun b n => ?places, fun b => ?engine, fun b => ?down, htrunk, fun h => State.drained_eq_false_iff.2 (hdrain h)⟩
    case places =>
      obtain ⟨hq, ho, hs⟩ := hplaces b n
      refine ⟨?_, by rw [Entry.outOn_iff]; exact ho, by rw [Entry.waitingOn_iff]; exact hs⟩
      simp only [Entry.queuedOn_iff]
      exact hq
    case engine =>
      obtain ⟨posted, behind, probe, timer, slot, -, -⟩ := hsound b
      exact ⟨posted, behind, probe, timer, fun n hn => Option.map_eq_none_iff.1 (slot n hn)⟩
    case down =>
      obtain ⟨-, -, -, -, -, stopped, down⟩ := hsound b
      refine ⟨stopped, fun hup => ?_⟩
      obtain ⟨hq, ho, hs, hp⟩ := down hup
      refine ⟨hq, ho, Option.map_eq_none_iff.1 hs, hp, fun n => ?_⟩
      have hn := (hplaces b n).ne_of_empty hq ho hs
      rw [Bool.or_eq_false_iff, Bool.or_eq_false_iff, ← Bool.not_eq_true, ← Bool.not_eq_true, ← Bool.not_eq_true,
        Entry.queuedOn_iff, Entry.waitingOn_iff, Entry.outOn_iff]
      exact ⟨⟨hn _, hn _⟩, hn _⟩

/-! ### Operations on the work -/

/-- What an entry's place is elsewhere does not matter to branch b. -/
theorem BranchWork.Locates.congr {v : BranchWork} {b : BranchId} {n : EntryId} {p p' : Option (BranchId × Place)}
    (h : v.Locates b n p) (hp : ∀ k, p' = some (b, k) ↔ p = some (b, k)) : v.Locates b n p' where
  queue := by simp only [h.queue, hp]
  engine := by rw [h.engine, hp]
  slot := by rw [h.slot, hp]

theorem Work.Placed.but {w : Work} (h : w.Placed) (b : BranchId) : w.PlacedBut b :=
  ⟨fun c _ => h.sound c, fun c _ => h.places c, h.trunk⟩

/-- What is right on every branch but b stays so whatever becomes of b. -/
theorem Work.PlacedBut.setBranch {w : Work} {b : BranchId} (h : w.PlacedBut b) (v : BranchWork) : (w.setBranch b v).PlacedBut b where
  sound c hc := by
    simp only [Work.setBranch, Function.update_of_ne hc]
    exact h.sound c hc
  places c hc := by
    simp only [Work.setBranch, Function.update_of_ne hc]
    exact h.places c hc
  trunk := h.trunk

/-- An entry whose place, before and after, is nowhere but on branch b. -/
theorem Work.PlacedBut.setEntry {w : Work} {b : BranchId} {n : EntryId} {e : Entry} (h : w.PlacedBut b)
    (before : ∀ c k, (w.entries n).place = some (c, k) → c = b) (after : ∀ c k, e.place = some (c, k) → c = b)
    (gone : w.trunkUp = false → e.goneOrDisowned = true) : (w.setEntry n e).PlacedBut b where
  sound := h.sound
  places c hc m := by
    by_cases hm : m = n
    · subst hm
      simp only [Work.setEntry, Function.update_self]
      exact (h.places c hc m).congr (fun k => iff_of_false (fun hk => hc (after c k hk)) (fun hk => hc (before c k hk)))
    · simp only [Work.setEntry, Function.update_of_ne hm]
      exact h.places c hc m
  trunk hdown m := by
    by_cases hm : m = n
    · subst hm
      simp only [Work.setEntry, Function.update_self]
      exact gone hdown
    · simp only [Work.setEntry, Function.update_of_ne hm]
      exact h.trunk hdown m

theorem Work.PlacedBut.placed {w : Work} {b : BranchId} (h : w.PlacedBut b) (sound : (w.branches b).Sound)
    (places : ∀ n, (w.branches b).Locates b n (w.entries n).place) : w.Placed where
  sound c := by
    by_cases hc : c = b
    · exact hc ▸ sound
    · exact h.sound c hc
  places c := by
    by_cases hc : c = b
    · exact hc ▸ places
    · exact h.places c hc
  trunk := h.trunk

/-- A change of branch b alone. -/
theorem Work.Placed.setBranch {w : Work} {b : BranchId} {v : BranchWork} (h : w.Placed) (sound : v.Sound)
    (places : ∀ n, v.Locates b n (w.entries n).place) : (w.setBranch b v).Placed :=
  ((h.but b).setBranch v).placed (by simpa [Work.setBranch] using sound) (by simpa [Work.setBranch] using places)

/-- A change of an entry alone that leaves it in its place. -/
theorem Work.Placed.setEntry {w : Work} {n : EntryId} {e : Entry} (h : w.Placed) (same : e.place = (w.entries n).place)
    (gone : w.trunkUp = false → e.goneOrDisowned = true) : (w.setEntry n e).Placed where
  sound := h.sound
  places b m := by
    by_cases hm : m = n
    · subst hm
      simp only [Work.setEntry, Function.update_self, same]
      exact h.places b m
    · simp only [Work.setEntry, Function.update_of_ne hm]
      exact h.places b m
  trunk hdown m := by
    by_cases hm : m = n
    · subst hm
      simp only [Work.setEntry, Function.update_self]
      exact gone hdown
    · simp only [Work.setEntry, Function.update_of_ne hm]
      exact h.trunk hdown m

/-- Entry n moves on branch b: the branch and the entry change together. -/
theorem Work.Placed.move {w : Work} {b : BranchId} {v : BranchWork} {n : EntryId} {e : Entry} (h : w.Placed) (sound : v.Sound)
    (before : ∀ c k, (w.entries n).place = some (c, k) → c = b) (after : ∀ c k, e.place = some (c, k) → c = b)
    (gone : w.trunkUp = false → e.goneOrDisowned = true) (here : v.Locates b n e.place)
    (others : ∀ m, m ≠ n → v.Locates b m (w.entries m).place) : ((w.setBranch b v).setEntry n e).Placed := by
  refine (((h.but b).setBranch v).setEntry before after gone).placed ?_ (fun m => ?_)
  · simpa [Work.setEntry, Work.setBranch] using sound
  · by_cases hm : m = n
    · subst hm
      simpa [Work.setEntry, Work.setBranch] using here
    · simpa [Work.setEntry, Work.setBranch, hm] using others m hm

/-! ### What the operations of the model make of the work -/

theorem State.work_eq {s t : State} (he : t.entries = s.entries) (hb : t.branches = s.branches)
    (ht : t.trunk.link.up = s.trunk.link.up) (hc : t.controller = s.controller) : t.work = s.work := by
  simp only [State.work, State.draining, he, hb, ht, hc]

@[simp] theorem State.work_entries (s : State) (n : EntryId) : s.work.entries n = s.entries[n] := rfl
@[simp] theorem State.work_branches (s : State) (b : BranchId) : s.work.branches b = s.branches[b].work := rfl
@[simp] theorem State.work_trunkUp (s : State) : s.work.trunkUp = s.trunk.link.up := rfl
@[simp] theorem State.work_draining (s : State) : s.work.draining = s.draining := rfl

@[simp] theorem State.work_emit (s : State) (p : Port) (f : Frame) : (s.emit p f).work = s.work := rfl
@[simp] theorem State.work_putAlert (s : State) (c : AlertKind) (a : AlertClass) : (s.putAlert c a).work = s.work := rfl
@[simp] theorem State.work_pushNotice (s : State) (o : NoticeSource) (d : Requester) (ws : List Word) :
    (s.pushNotice o d ws).work = s.work := rfl
@[simp] theorem State.work_pushAlert (s : State) (c : AlertKind) (d : Word) : (s.pushAlert c d).work = s.work := rfl

@[simp] theorem State.work_raise (s : State) (c : AlertKind) (d : Word) : (s.raise c d).work = s.work :=
  State.work_eq (by simp) (by simp) (by simp) (by simp)

@[simp] theorem State.work_handFault (s : State) (f : FaultEntry) : (s.handFault f).work = s.work :=
  State.work_eq (by simp) (by simp) (by simp) (by simp)

@[simp] theorem State.work_reportLost (s : State) (b : BranchId) (q : List Item) : (s.reportLost b q).work = s.work :=
  State.work_eq (by simp) (by simp) (by simp) (by simp)

@[simp] theorem State.work_answer (s : State) (r : Requester) (t : Tag) (a : AnswerBody) : (s.answer r t a).work = s.work := by
  refine State.work_eq (by simp) (by simp) ?_ (by simp)
  unfold State.answer
  split <;> rfl

@[simp] theorem State.work_setEntry (s : State) (n : EntryId) (e : Entry) : (s.setEntry n e).work = s.work.setEntry n e := by
  simp only [State.work, Work.setEntry, Work.mk.injEq]
  refine ⟨funext fun m => ?_, rfl, rfl, rfl⟩
  simp only [State.setEntry_get, Function.update_apply, eq_comm (a := n)]

@[simp] theorem State.work_modBranch (s : State) (b : BranchId) (f : Branch → Branch) :
    (s.modBranch b f).work = s.work.setBranch b (f s.branches[b]).work := by
  simp only [State.work, Work.setBranch, Work.mk.injEq]
  refine ⟨rfl, funext fun c => ?_, rfl, rfl⟩
  rw [State.modBranch_get, Function.update_apply]
  by_cases h : b = c
  · rw [if_pos h, if_pos h.symm]
  · rw [if_neg h, if_neg (Ne.symm h)]

@[simp] theorem Work.setBranch_setBranch (w : Work) (b : BranchId) (v v' : BranchWork) :
    (w.setBranch b v).setBranch b v' = w.setBranch b v' := by simp [Work.setBranch]

@[simp] theorem Work.setBranch_self (w : Work) (b : BranchId) : w.setBranch b (w.branches b) = w := by simp [Work.setBranch]

/-- A branch and an entry are replaced in either order. -/
@[simp] theorem Work.setBranch_setEntry (w : Work) (b : BranchId) (v : BranchWork) (n : EntryId) (e : Entry) :
    (w.setEntry n e).setBranch b v = (w.setBranch b v).setEntry n e := rfl

/-- A branch changed in fields that the laws do not look at. -/
theorem State.work_modBranch_of_eq {s : State} {b : BranchId} {f : Branch → Branch} (h : (f s.branches[b]).work = s.branches[b].work) :
    (s.modBranch b f).work = s.work := by
  rw [State.work_modBranch, h]
  exact s.work.setBranch_self b

@[simp] theorem State.work_syncLevel (s : State) (b : BranchId) : (s.syncLevel b).work = s.work := by
  have hlevel := State.work_modBranch_of_eq (s := s) (b := b) (f := fun br => { br with level := br.atWatermark }) rfl
  simp only [State.syncLevel]
  split
  · rw [State.work_raise, hlevel]
  · exact hlevel

@[simp] theorem State.work_setQueue (s : State) (b : BranchId) (q : List Item) :
    (s.setQueue b q).work = s.work.setBranch b { s.branches[b].work with queue := q } := by
  rw [State.setQueue, State.work_syncLevel, State.work_modBranch]
  rfl

/-- A link changed in other fields than whether it is UP. -/
theorem State.work_setLink {s : State} {p : Port} {l : LinkPort} (h : l.up = (s.link p).up) : (s.setLink p l).work = s.work := by
  cases p with
  | trunk => exact State.work_eq rfl rfl h rfl
  | branch b =>
    refine State.work_modBranch_of_eq ?_
    have hup : l.up = s.branches[b].link.up := h
    simp only [Branch.work, hup]

theorem State.work_modLink {s : State} {p : Port} {f : LinkPort → LinkPort} (h : ∀ l, (f l).up = l.up) : (s.modLink p f).work = s.work :=
  State.work_setLink (h _)

@[simp] theorem State.work_sendData (s : State) (p : Port) (ws : List Word) : (s.sendData p ws).work = s.work := by
  rw [State.sendData, State.work_emit]
  exact State.work_setLink rfl

@[simp] theorem State.work_sendWaiting (s : State) (b : BranchId) (ps : List BranchPacket) : (s.sendWaiting b ps).work = s.work := by
  induction ps generalizing s with
  | nil => exact State.work_modBranch_of_eq rfl
  | cons p rest ih =>
    unfold State.sendWaiting
    split
    · rw [ih, State.work_sendData]
    · exact State.work_modBranch_of_eq rfl

@[simp] theorem State.work_handToPort (s : State) (b : BranchId) (p : BranchPacket) : (s.handToPort b p).work = s.work :=
  s.work_sendWaiting b _

@[simp] theorem State.work_roomFreed (s : State) (p : Port) : (s.roomFreed p).work = s.work := by
  cases p with
  | trunk => rfl
  | branch b => exact s.work_sendWaiting b _

@[simp] theorem State.work_deliver (s : State) (p : Port) (ws : List Word) : (s.deliver p ws).work = s.work := by
  cases p with
  | trunk => rfl
  | branch b => exact State.work_modBranch_of_eq rfl

/-! ### Steps that keep the places of work -/

theorem State.InPlace.congr {s t : State} (h : s.InPlace) (hw : t.work = s.work) : t.InPlace :=
  ⟨hw ▸ h.placed, fun hd => hw ▸ h.drains ((congrArg Work.draining hw).symm.trans hd)⟩

/-- Work that goes on counts in the drain condition as before. -/
theorem Work.Counts.mono {w w' : Work} (h : w.Counts) (he : ∀ n, (w.entries n).place.isSome = true → (w'.entries n).place.isSome = true)
    (hq : ∀ b, ∀ it ∈ (w.branches b).queue, it.isPosted = true → ∃ it' ∈ (w'.branches b).queue, it'.isPosted = true) : w'.Counts := by
  rcases h with ⟨n, hn⟩ | ⟨b, it, hit, hp⟩
  · exact .inl ⟨n, he n hn⟩
  · exact .inr ⟨b, hq b it hit hp⟩

/-- A change of branch b that keeps its posted items. -/
theorem Work.Counts.setBranch {w : Work} {b : BranchId} {v : BranchWork} (h : w.Counts)
    (hq : ∀ it ∈ (w.branches b).queue, it.isPosted = true → ∃ it' ∈ v.queue, it'.isPosted = true) : (w.setBranch b v).Counts := by
  refine h.mono (fun _ hn => hn) (fun c it hit hp => ?_)
  by_cases hc : c = b
  · subst hc
    simpa [Work.setBranch] using hq it hit hp
  · simp only [Work.setBranch, Function.update_of_ne hc]
    exact ⟨it, hit, hp⟩

/-- A change of an entry that leaves it somewhere. -/
theorem Work.Counts.setEntry {w : Work} {n : EntryId} {e : Entry} (h : w.Counts)
    (he : (w.entries n).place.isSome = true → e.place.isSome = true) : (w.setEntry n e).Counts := by
  refine h.mono (fun m hm => ?_) (fun b it hit hp => ⟨it, hit, hp⟩)
  by_cases hmn : m = n
  · subst hmn
    simpa [Work.setEntry] using he hm
  · simpa [Work.setEntry, hmn] using hm

/-- R122: at the end of an event that may remove counted work the drain is looked at. -/
theorem State.inPlace_drainEnd {s : State} (h : s.work.Placed) : s.drainEnd.InPlace := by
  unfold State.drainEnd
  split
  · have hidle : s.commitSwap.draining = false := by
      simp [State.commitSwap, State.endCommit, State.draining]
    refine ⟨⟨?_, ?_, ?_⟩, fun hd => absurd (hidle ▸ hd) Bool.false_ne_true⟩
    · simpa [State.work] using h.sound
    · simpa [State.work] using h.places
    · simpa [State.work] using h.trunk
  · rename_i hno
    refine ⟨h, fun hd => State.drained_eq_false_iff.1 ?_⟩
    simpa [hd] using hno

section
variable {s : State} {b : BranchId} {n : EntryId}

theorem State.InPlace.drainEnd (h : s.InPlace) : s.drainEnd.InPlace := State.inPlace_drainEnd h.placed

theorem State.InPlace.endCommit {o : CommitOutcome} (h : s.InPlace) : (s.endCommit o).InPlace := by
  have hidle : (s.endCommit o).draining = false := by simp [State.endCommit, State.draining]
  refine ⟨⟨?_, ?_, ?_⟩, fun hd => absurd (hidle ▸ hd) Bool.false_ne_true⟩
  · simpa [State.work] using h.placed.sound
  · simpa [State.work] using h.placed.places
  · simpa [State.work] using h.placed.trunk

theorem State.InPlace.commitSwap (h : s.InPlace) : s.commitSwap.InPlace := by
  have hswap : s.swap.InPlace := h.congr rfl
  exact hswap.endCommit

/-- A change of branch b alone that keeps its posted items. -/
theorem State.InPlace.modBranch {f : Branch → Branch} (h : s.InPlace) (sound : (f s.branches[b]).work.Sound)
    (places : ∀ n : EntryId, (f s.branches[b]).work.Locates b n s.entries[n].place)
    (posted : ∀ it ∈ s.branches[b].queue, it.isPosted = true → ∃ it' ∈ (f s.branches[b]).queue, it'.isPosted = true) :
    (s.modBranch b f).InPlace := by
  refine ⟨?_, fun hd => ?_⟩ <;> rw [State.work_modBranch]
  · exact h.placed.setBranch sound places
  · exact (h.drains hd).setBranch posted

end

/-! ### Changes of the work of one branch -/

theorem Item.not_isSent_of_waits {it : Item} (h : it.waits = true) : it.isSent = false := by
  cases it with
  | posted p =>
    have hready : p.state = .ready := by simpa [Item.waits] using h
    simp [Item.isSent, hready]
  | ref n => rfl

section
variable {v : BranchWork} {b : BranchId} {n m : EntryId} {p : Option (BranchId × Place)} {q : List Item} {it : Item}

theorem BranchWork.Sound.head_not_sent (h : v.Sound) (ho : v.outstanding ≠ some .posted) :
    v.queue.head?.any Item.isSent = false := Bool.of_not_eq_true (mt h.posted.2 ho)

/-- R81: a branch with an outstanding request has its link UP. -/
theorem BranchWork.Sound.up_of_outstanding {o : Outstanding} (h : v.Sound) (ho : v.outstanding = some o) : v.up = true := by
  by_contra hup
  have hnone := (h.down (Bool.of_not_eq_true hup)).2.1
  rw [ho] at hnone
  cases hnone

/-- R58: the items behind the head wait, so the next head is not SENT. -/
theorem BranchWork.Sound.rest_not_sent (h : v.Sound) (hq : v.queue = it :: q) :
    q.head?.any Item.isSent = false ∧ ∀ x ∈ q.tail, x.waits = true := by
  have hbehind := h.behind
  rw [hq] at hbehind
  cases q with
  | nil => exact ⟨rfl, fun x hx => by cases hx⟩
  | cons y rest => exact ⟨Item.not_isSent_of_waits (hbehind y (by simp)), fun x hx => hbehind x (List.mem_of_mem_tail hx)⟩

/-- R55: an item that waits joins the queue of a branch whose link is UP. -/
theorem BranchWork.Sound.append (h : v.Sound) (hup : v.up = true) (hit : it.waits = true) :
    ({ v with queue := v.queue ++ [it] } : BranchWork).Sound where
  posted := by
    rw [h.posted]
    cases hq : v.queue with
    | nil => simp [Item.not_isSent_of_waits hit]
    | cons x rest => rfl
  behind x hx := by
    cases hq : v.queue with
    | nil => simp [hq] at hx
    | cons y rest =>
      have hbehind := h.behind
      rw [hq] at hx hbehind
      rcases List.mem_append.1 hx with hx | hx
      · exact hbehind x hx
      · rwa [List.mem_singleton.1 hx]
  probe := h.probe
  timer := h.timer
  slot := h.slot
  stopped := h.stopped
  down hdown := absurd (hup.symm.trans hdown) Bool.noConfusion

/-- Items leave the queue, but no SENT one. -/
theorem BranchWork.Sound.filter {keep : Item → Bool} (h : v.Sound) (hkeep : ∀ x : Item, x.isSent = true → keep x = true) :
    ({ v with queue := v.queue.filter keep } : BranchWork).Sound := by
  have hheads : (v.queue.filter keep).head?.any Item.isSent = v.queue.head?.any Item.isSent
      ∧ ∀ x ∈ (v.queue.filter keep).tail, x.waits = true := by
    cases hq : v.queue with
    | nil => exact ⟨rfl, fun x hx => by cases hx⟩
    | cons y rest =>
      have hbehind := h.behind
      rw [hq] at hbehind
      have hrest : ∀ x ∈ rest.filter keep, x.waits = true := fun x hx => hbehind x (List.mem_of_mem_filter hx)
      cases hy : keep y with
      | true =>
        rw [List.filter_cons_of_pos hy]
        exact ⟨rfl, hrest⟩
      | false =>
        rw [List.filter_cons_of_neg (by simp [hy])]
        refine ⟨?_, fun x hx => hrest x (List.mem_of_mem_tail hx)⟩
        have hsent : y.isSent = false := Bool.of_not_eq_true (fun hs => by rw [hkeep y hs] at hy; cases hy)
        cases hf : rest.filter keep with
        | nil => simp [hsent]
        | cons x xs => simp [hsent, Item.not_isSent_of_waits (hrest x (by simp [hf]))]
  refine ⟨by rw [h.posted, hheads.1], hheads.2, h.probe, h.timer, h.slot, h.stopped, fun hdown => ?_⟩
  obtain ⟨hq, ho, hs, hp⟩ := h.down hdown
  exact ⟨by simp [hq], ho, hs, hp⟩

/-- The retry slot becomes empty. -/
theorem BranchWork.Sound.clearSlot (h : v.Sound) : ({ v with slot := none } : BranchWork).Sound :=
  ⟨h.posted, h.behind, h.probe, h.timer, fun _ _ => rfl, h.stopped, fun hdown => by
    obtain ⟨hq, ho, -, hp⟩ := h.down hdown
    exact ⟨hq, ho, rfl, hp⟩⟩

/-- The head leaves the queue while no posted item is outstanding. -/
theorem BranchWork.Sound.dequeue (h : v.Sound) (hq : v.queue = it :: q) (ho : v.outstanding ≠ some .posted) :
    ({ v with queue := q } : BranchWork).Sound := by
  obtain ⟨hhead, hbehind⟩ := h.rest_not_sent hq
  refine ⟨iff_of_false ho (by simp [hhead]), hbehind, h.probe, h.timer, h.slot, h.stopped, fun hdown => ?_⟩
  have hempty := (h.down hdown).1
  rw [hq] at hempty
  cases hempty

/-- R28: an entry is issued: nothing was outstanding, and the slot is empty. -/
theorem BranchWork.Sound.issueEntry (h : v.Sound) (hup : v.up = true) (ho : v.outstanding = none) (hs : v.slot = none) :
    ({ v with outstanding := some (.entry n), timer := true } : BranchWork).Sound where
  posted := iff_of_false (by simp) (by simp [h.head_not_sent (by simp [ho])])
  behind := h.behind
  probe := iff_of_false (by simp) (fun hp => by have := h.probe.2 hp; simp [ho] at this)
  timer := rfl
  slot _ _ := hs
  stopped := h.stopped
  down hdown := absurd (hup.symm.trans hdown) Bool.noConfusion

/-- R94: the PENDING probe is issued. -/
theorem BranchWork.Sound.issueProbe {x : ProbeOperation} {a : Address} (h : v.Sound) (hup : v.up = true) (ho : v.outstanding = none) :
    ({ v with probe := .issued x a, outstanding := some .probe, timer := true } : BranchWork).Sound where
  posted := iff_of_false (by simp) (by simp [h.head_not_sent (by simp [ho])])
  behind := h.behind
  probe := iff_of_true rfl rfl
  timer := rfl
  slot _ hn := by cases hn
  stopped := h.stopped
  down hdown := absurd (hup.symm.trans hdown) Bool.noConfusion

/-- R62: the posted item at the head is issued. -/
theorem BranchWork.Sound.issuePosted {x : PostedItem} (h : v.Sound) (hup : v.up = true) (ho : v.outstanding = none)
    (hq : v.queue = it :: q) (hx : x.state = .sent) :
    ({ v with queue := .posted x :: q, outstanding := some .posted, timer := true } : BranchWork).Sound where
  posted := iff_of_true rfl (by simp [Item.isSent, hx])
  behind := by
    have hbehind := h.behind
    rwa [hq] at hbehind
  probe := iff_of_false (by simp) (fun hp => by have := h.probe.2 hp; simp [ho] at this)
  timer := rfl
  slot _ hn := by cases hn
  stopped := h.stopped
  down hdown := absurd (hup.symm.trans hdown) Bool.noConfusion

/-- R84: the issue of an entry ends; the entry may take the slot (R30). -/
theorem BranchWork.Sound.endEntry {x : Option EntryId} (h : v.Sound) (ho : v.outstanding = some (.entry n)) :
    ({ v with outstanding := none, timer := false, slot := x } : BranchWork).Sound where
  posted := iff_of_false (by simp) (by simp [h.head_not_sent (by simp [ho])])
  behind := h.behind
  probe := iff_of_false (by simp) (fun hp => by have := h.probe.2 hp; simp [ho] at this)
  timer := rfl
  slot _ hn := by cases hn
  stopped := h.stopped
  down hdown := absurd ((h.up_of_outstanding ho).symm.trans hdown) Bool.noConfusion

/-- R63 to R66: the issue of the posted item at the head ends, with a queue whose head is not SENT and whose other items wait. -/
theorem BranchWork.Sound.endPosted (h : v.Sound) (ho : v.outstanding = some .posted) (hhead : q.head?.any Item.isSent = false)
    (hbehind : ∀ x ∈ q.tail, x.waits = true) : ({ v with queue := q, outstanding := none, timer := false } : BranchWork).Sound where
  posted := iff_of_false (by simp) (by simp [hhead])
  behind := hbehind
  probe := iff_of_false (by simp) (fun hp => by have := h.probe.2 hp; simp [ho] at this)
  timer := rfl
  slot _ hn := by cases hn
  stopped := h.stopped
  down hdown := absurd ((h.up_of_outstanding ho).symm.trans hdown) Bool.noConfusion

/-- R94: the issue of the probe ends. -/
theorem BranchWork.Sound.endProbe {x : Probe} (h : v.Sound) (ho : v.outstanding = some .probe) (hx : x.isIssued = false) :
    ({ v with outstanding := none, timer := false, probe := x } : BranchWork).Sound where
  posted := iff_of_false (by simp) (by simp [h.head_not_sent (by simp [ho])])
  behind := h.behind
  probe := iff_of_false (by simp) (by simp [hx])
  timer := rfl
  slot _ hn := by cases hn
  stopped := h.stopped
  down hdown := absurd ((h.up_of_outstanding ho).symm.trans hdown) Bool.noConfusion

/-! ### Where entries stand in a changed branch -/

theorem BranchWork.Locates.setQueue (h : v.Locates b n p) (hq : q.count (.ref n) = v.queue.count (.ref n)) :
    ({ v with queue := q } : BranchWork).Locates b n p := ⟨hq.trans h.queue, h.engine, h.slot⟩

theorem BranchWork.Locates.setOutstanding {o : Option Outstanding} {x : Bool} (h : v.Locates b n p)
    (hold : v.outstanding ≠ some (.entry n)) (hnew : o ≠ some (.entry n)) :
    ({ v with outstanding := o, timer := x } : BranchWork).Locates b n p :=
  ⟨h.queue, (iff_of_false hnew hold).trans h.engine, h.slot⟩

theorem BranchWork.Locates.setSlot {x : Option EntryId} (h : v.Locates b n p) (hold : v.slot ≠ some n) (hnew : x ≠ some n) :
    ({ v with slot := x } : BranchWork).Locates b n p := ⟨h.queue, h.engine, (iff_of_false hnew hold).trans h.slot⟩

theorem BranchWork.Locates.nowhere (hq : v.queue.count (.ref n) = 0) (ho : v.outstanding ≠ some (.entry n)) (hs : v.slot ≠ some n)
    (hp : ∀ k, p ≠ some (b, k)) : v.Locates b n p :=
  ⟨by rw [hq, if_neg (hp _)], iff_of_false ho (hp _), iff_of_false hs (hp _)⟩

/-- An entry that stands nowhere on a branch: it has no reference, is not outstanding, and is not in the slot. -/
theorem BranchWork.Locates.of_nowhere (h : v.Locates b n p) (hp : ∀ k, p ≠ some (b, k)) :
    v.queue.count (.ref n) = 0 ∧ v.outstanding ≠ some (.entry n) ∧ v.slot ≠ some n :=
  ⟨by rw [h.queue, if_neg (hp _)], mt h.engine.1 (hp _), mt h.slot.1 (hp _)⟩

theorem count_cons_ref_of_ne {x : EntryId} (h : x ≠ n) : ((.ref n : Item) :: q).count (.ref x) = q.count (.ref x) :=
  List.count_cons_of_ne (by simpa using Ne.symm h)

theorem count_cons_posted (x : PostedItem) (y : EntryId) : ((.posted x : Item) :: q).count (.ref y) = q.count (.ref y) :=
  List.count_cons_of_ne (by simp)

end

/-! ### Requests and the places of work -/

theorem Entry.branch_of_place {l : LiveEntry} {c : BranchId} {k : Place} (h : (Entry.live l).place = some (c, k)) :
    c = l.req.branch := by
  cases hl : l.state <;> simp only [Entry.place, hl] at h <;> cases h <;> rfl

theorem Branch.carries_iff {br : Branch} : br.carries = true ↔ br.link.up = true ∧ br.reset = false := by
  simp [Branch.carries]

/-- A state with the work w. -/
theorem State.InPlace.of_work {t : State} {w : Work} (hw : t.work = w) (hp : w.Placed) (hd : w.draining = true → w.Counts) :
    t.InPlace := by
  subst hw
  exact ⟨hp, hd⟩

section
variable {s : State} {b : BranchId} {n : EntryId} {l : LiveEntry}

/-- R48: an entry that is not DISOWNED shows that the trunk is UP. -/
theorem State.InPlace.trunk_up (h : s.InPlace) (hn : s.entries[n] = .live l) (hl : l.state ≠ .disowned) : s.trunk.link.up = true := by
  by_contra hdown
  have hgone := h.placed.trunk (Bool.of_not_eq_true hdown) n
  simp only [State.work_entries, hn, Entry.goneOrDisowned, beq_iff_eq] at hgone
  exact hl hgone

theorem State.InPlace.answer {r : Requester} {t : Tag} {a : AnswerBody} (h : s.InPlace) : (s.answer r t a).InPlace := h.congr (by simp)

theorem State.InPlace.handFault {f : FaultEntry} (h : s.InPlace) : (s.handFault f).InPlace := h.congr (by simp)

theorem State.InPlace.raise {c : AlertKind} {d : Word} (h : s.InPlace) : (s.raise c d).InPlace := h.congr (by simp)

theorem State.InPlace.handToPort {p : BranchPacket} (h : s.InPlace) : (s.handToPort b p).InPlace := h.congr (by simp)

/-- R21: a FREE entry becomes QUEUED, and its reference joins the queue. -/
theorem State.InPlace.accept {k : NpKind} {q : MemoryRequest} {a : Address} (h : s.InPlace) (hup : s.trunk.link.up = true)
    (hfree : s.entries[n] = .free) (hidle : s.draining = false) (hcarries : s.branches[b].carries = true) :
    (s.accept n k q a b).InPlace := by
  let e : LiveEntry :=
    { req :=
        { requester := q.requester, tag := q.tag, kind := k, address := a, length := q.length, data := q.data, branch := b,
          generation := s.generation }
      attempts := 0, state := .queued }
  have hbranch : s.branches[b].link.up = true := (Branch.carries_iff.1 hcarries).1
  have hw : (s.accept n k q a b).work
      = (s.work.setBranch b { s.branches[b].work with queue := s.branches[b].queue ++ [.ref n] }).setEntry n (.live e) := by
    simp only [State.accept, State.appendItem, State.work_answer, State.work_setQueue, State.work_setEntry]
    rfl
  have hnone : (s.work.entries n).place = none := by simp only [State.work_entries, hfree, Entry.place]
  obtain ⟨hcount, hout, hslot⟩ := (h.placed.places b n).of_nowhere (fun k hk => by rw [hnone] at hk; cases hk)
  refine .of_work hw (h.placed.move ?sound ?before ?after ?gone ?here ?others) ?drains
  case sound => exact (h.placed.sound b).append hbranch rfl
  case before => exact fun c k hk => by rw [hnone] at hk; cases hk
  case after => exact fun c k hk => Entry.branch_of_place hk
  case gone => exact fun hdown => absurd (hup.symm.trans hdown) Bool.noConfusion
  case here =>
    have hone : (s.branches[b].queue ++ [Item.ref n]).count (.ref n) = 1 := by
      rw [List.count_append, show s.branches[b].queue.count (.ref n) = 0 from hcount, List.count_singleton_self]
    exact ⟨hone.trans (if_pos rfl).symm, iff_of_false hout (by simp [Entry.place, e]), iff_of_false hslot (by simp [Entry.place, e])⟩
  case others =>
    intro m hm
    refine (h.placed.places b m).setQueue ?_
    rw [List.count_append, List.count_singleton, if_neg (by simpa using Ne.symm hm), Nat.add_zero]
    rfl
  case drains => exact fun hd => absurd (hidle.symm.trans hd) Bool.noConfusion

/-- R22: a posted item that is READY joins the queue. -/
theorem State.InPlace.appendPosted {p : PostedItem} (h : s.InPlace) (hp : p.state = .ready) (hidle : s.draining = false)
    (hcarries : s.branches[b].carries = true) : (s.appendItem b (.posted p)).InPlace := by
  have hbranch : s.branches[b].link.up = true := (Branch.carries_iff.1 hcarries).1
  refine .of_work (s.work_setQueue b _) (h.placed.setBranch ?_ (fun m => ?_))
    (fun hd => absurd (hidle.symm.trans hd) Bool.noConfusion)
  · exact (h.placed.sound b).append hbranch (by simp [Item.waits, hp])
  · refine (h.placed.places b m).setQueue ?_
    rw [List.count_append, count_cons_posted]
    rfl

/-- A change of an entry that stands nowhere, before and after. -/
theorem State.InPlace.setEntry {e : Entry} (h : s.InPlace) (hn : s.entries[n].place = none) (he : e.place = none)
    (gone : s.trunk.link.up = false → e.goneOrDisowned = true) : (s.setEntry n e).InPlace :=
  .of_work (s.work_setEntry n e) (h.placed.setEntry (he.trans hn.symm) gone)
    (fun hd => (h.drains hd).setEntry (fun hsome => by rw [State.work_entries, hn] at hsome; cases hsome))

/-- R36 to R38: a repeat leaves an entry where it stands, or frees a COMPLETE one, which stands nowhere. -/
theorem State.InPlace.answerRepeat (h : s.InPlace) (hn : s.entries[n] = .live l) : (s.answerRepeat n l).InPlace := by
  unfold State.answerRepeat
  split
  · rename_i c hc
    have hplace : s.entries[n].place = none := by simp only [hn, Entry.place, hc]
    split
    · exact (h.setEntry hplace rfl (fun _ => rfl)).answer
    · refine (h.setEntry hplace rfl (fun hdown => ?_)).answer
      have hup := h.trunk_up hn (by simp [hc])
      exact absurd (hup.symm.trans hdown) Bool.noConfusion
  · exact h.answer

/-- R42 to R46: an entry that is abandoned leaves its place, or becomes DISOWNED in it. -/
theorem State.placed_abandonEntry (h : s.InPlace) (hn : s.entries[n] = .live l) : (s.abandonEntry n l).work.Placed := by
  have hplaces := h.placed.places l.req.branch
  have hsound := h.placed.sound l.req.branch
  have hbefore : ∀ c k, (s.work.entries n).place = some (c, k) → c = l.req.branch := fun c k hk => by
    rw [State.work_entries, hn] at hk
    exact Entry.branch_of_place hk
  unfold State.abandonEntry
  split
  case h_1 hl =>
    simp only [State.work_setQueue, State.work_setEntry, Work.setBranch_setEntry]
    have hplace : (s.work.entries n).place = some (l.req.branch, .queue) := by simp only [State.work_entries, hn, Entry.place, hl]
    refine h.placed.move (hsound.filter (fun x hx => ?_)) hbefore (fun _ _ hk => by cases hk) (fun _ => rfl) ?_ (fun m hm => ?_)
    · cases x with
      | posted p => simp
      | ref m => cases hx
    · have here := hplace ▸ hplaces n
      refine .nowhere (List.count_eq_zero.2 (by simp)) (mt here.engine.1 (by simp)) (mt here.slot.1 (by simp))
        (fun _ hk => by cases hk)
    · refine (hplaces m).setQueue ?_
      rw [List.count_filter (by simpa using hm)]
      rfl
  case h_2 hl =>
    simp only [State.work_modBranch, State.work_setEntry, Work.setBranch_setEntry]
    have hplace : (s.work.entries n).place = some (l.req.branch, .slot) := by simp only [State.work_entries, hn, Entry.place, hl]
    have here := hplace ▸ hplaces n
    refine h.placed.move hsound.clearSlot hbefore (fun _ _ hk => by cases hk) (fun _ => rfl) ?_ (fun m hm => ?_)
    · refine .nowhere (here.queue.trans (if_neg (by simp))) (mt here.engine.1 (by simp))
        (fun hs : none = some n => by cases hs) (fun _ hk => by cases hk)
    · refine (hplaces m).setSlot (fun hs => hm ?_) (by simp)
      exact Option.some_injective _ (hs.symm.trans (here.slot.2 rfl))
  case h_3 hl =>
    rw [State.work_setEntry]
    exact h.placed.setEntry (by simp only [State.work_entries, hn, Entry.place, hl]) (fun _ => rfl)
  case h_4 c hl =>
    rw [State.work_setEntry]
    exact h.placed.setEntry (by simp only [State.work_entries, hn, Entry.place, hl]) (fun _ => rfl)
  case h_5 => exact h.placed

theorem State.InPlace.decodeAbandon {r : Requester} {t : Tag} {extra : Nat} (h : s.InPlace) :
    (s.decodeAbandon r t extra).InPlace := by
  unfold State.decodeAbandon
  split
  · exact h.handFault.answer
  · split
    · exact h.answer
    · split
      · exact h.answer
      · rename_i hlive
        split
        · exact h.answer
        · exact (State.inPlace_drainEnd (State.placed_abandonEntry h hlive)).answer

theorem State.InPlace.decodeMemory {k : MemKind} {q : MemoryRequest} (h : s.InPlace) (hup : s.trunk.link.up = true) :
    (s.decodeMemory k q).InPlace := by
  have hdecodes := s.decodes_decodeMemory k q
  generalize s.decodeMemory k q = t at hdecodes ⊢
  cases hdecodes with
  | answers body => exact h.answer
  | faults f body => exact h.handFault.answer
  | repeats n l hn => exact h.answerRepeat hn
  | accepts n k a b hfree _ hidle hcarries => exact h.accept hup hfree hidle hcarries
  | queues a b hidle hcarries => exact (h.appendPosted rfl hidle hcarries).answer

end

/-! ### Losses and the places of work -/

/-- R47: of the entries of the lost branch, none stands on it any more. -/
theorem Entry.place_afterBranchLoss (e : Entry) (b c : BranchId) (k : Place) (f : Option (BitVec 16)) (limit : BitVec 16) :
    (e.afterBranchLoss b f limit).place = some (c, k) ↔ c ≠ b ∧ e.place = some (c, k) := by
  cases e with
  | free => simp [Entry.afterBranchLoss, Entry.place]
  | live l =>
    simp only [Entry.afterBranchLoss]
    split
    · rename_i hb
      have hnone : (l.afterBranchLoss f limit).place = none := by
        cases hl : l.state <;> simp [LiveEntry.afterBranchLoss, LiveEntry.completed, Entry.place, hl]
      rw [hnone]
      exact iff_of_false (by simp) (fun ⟨hc, hp⟩ => hc ((Entry.branch_of_place hp).trans hb))
    · rename_i hb
      exact ⟨fun hp => ⟨fun hc => hb ((Entry.branch_of_place hp).symm.trans hc), hp⟩, And.right⟩

theorem Entry.goneOrDisowned_afterBranchLoss {e : Entry} (h : e.goneOrDisowned = true) (b : BranchId) (f : Option (BitVec 16))
    (limit : BitVec 16) : (e.afterBranchLoss b f limit).goneOrDisowned = true := by
  cases e with
  | free => rfl
  | live l =>
    have hl : l.state = .disowned := by simpa [Entry.goneOrDisowned] using h
    simp only [Entry.afterBranchLoss]
    split
    · simp [LiveEntry.afterBranchLoss, hl, Entry.goneOrDisowned]
    · exact h

/-- R48: of the entries, those that are outstanding stay so, DISOWNED. -/
theorem Entry.place_afterTrunkLoss (e : Entry) (c : BranchId) (k : Place) :
    e.afterTrunkLoss.place = some (c, k) ↔ k = .engine ∧ e.place = some (c, k) := by
  cases e with
  | free => simp [Entry.afterTrunkLoss, Entry.place]
  | live l =>
    cases hl : l.state <;> cases k <;> simp [Entry.afterTrunkLoss, Entry.place, hl]

theorem Entry.goneOrDisowned_afterTrunkLoss (e : Entry) : e.afterTrunkLoss.goneOrDisowned = true := by
  cases e with
  | free => rfl
  | live l => cases hl : l.state <;> simp [Entry.afterTrunkLoss, Entry.goneOrDisowned, hl]

@[simp] theorem State.work_mapEntries (s : State) (f : Entry → Entry) :
    (s.mapEntries f).work = { s.work with entries := fun n => f s.entries[n] } := by
  simp only [State.work, State.draining, State.mapEntries_get, State.mapEntries_trunk, State.mapEntries_branches,
    State.mapEntries_controller]

@[simp] theorem State.work_mapBranches (s : State) (f : Branch → Branch) :
    (s.mapBranches f).work = { s.work with branches := fun b => (f s.branches[b]).work } := by
  simp only [State.work, State.draining, State.mapBranches_get, State.mapBranches_trunk, State.mapBranches_entries,
    State.mapBranches_controller]

/-- R81: what a branch loss leaves of the work of the branch. -/
def BranchWork.lost (v : BranchWork) : BranchWork :=
  { v with queue := [], outstanding := none, timer := false, slot := none, probe := v.probe.afterLoss }

theorem Branch.work_afterLoss (br : Branch) : br.afterLoss.work = br.work.lost := rfl

theorem BranchWork.sound_lost {v : BranchWork} (h : v.reset = true → v.up = false) : v.lost.Sound where
  posted := iff_of_false (Option.some_ne_none _).symm Bool.false_ne_true
  behind x hx := by cases hx
  probe := iff_of_false (Option.some_ne_none _).symm (by cases hp : v.probe <;> simp [BranchWork.lost, hp, Probe.afterLoss, Probe.isIssued])
  timer := rfl
  slot _ _ := rfl
  stopped := h
  down _ := ⟨rfl, rfl, rfl, by cases hp : v.probe <;> simp [BranchWork.lost, hp, Probe.afterLoss]⟩

/-- R73, R48: what a trunk loss leaves of the work of a branch. -/
def BranchWork.trunkLost (v : BranchWork) : BranchWork := { v with queue := v.queue.filter Item.isPosted, slot := none }

theorem Branch.work_afterTrunkLoss (br : Branch) : br.afterTrunkLoss.work = br.work.trunkLost := rfl

theorem BranchWork.Sound.trunkLost {v : BranchWork} (h : v.Sound) : v.trunkLost.Sound := by
  refine (h.filter (keep := Item.isPosted) (fun x hx => ?_)).clearSlot
  cases x with
  | posted p => rfl
  | ref m => cases hx

theorem BranchWork.Locates.trunkLost {v : BranchWork} {b : BranchId} {n : EntryId} {e : Entry} (h : v.Locates b n e.place) :
    v.trunkLost.Locates b n e.afterTrunkLoss.place where
  queue := by
    rw [if_neg (by simp [Entry.place_afterTrunkLoss])]
    exact List.count_eq_zero.2 (by simp [BranchWork.trunkLost, Item.isPosted])
  engine := by
    rw [Entry.place_afterTrunkLoss, and_iff_right rfl]
    exact h.engine
  slot := iff_of_false (Option.some_ne_none _).symm (by simp [Entry.place_afterTrunkLoss])

section
variable {s : State} {b : BranchId} {n : EntryId} {l : LiveEntry}

/-- R81: a branch whose link is not UP under a reset flag is emptied by its loss, whatever it held. -/
theorem State.inPlace_branchLoss (h : s.work.PlacedBut b) (hstop : s.branches[b].reset = true → s.branches[b].link.up = false) :
    (s.branchLoss b).InPlace := by
  refine State.inPlace_drainEnd ?_
  simp only [State.work_reportLost, State.work_modBranch, State.work_mapEntries, State.mapEntries_branches, Branch.work_afterLoss]
  have hbut : ({ s.work with
      entries := fun n => s.entries[n].afterBranchLoss b (s.youngestFrom b) s.collectionLimit } : Work).PlacedBut b :=
    ⟨h.sound, fun c hc n => ?places, fun hdown n => ?trunk⟩
  refine (hbut.setBranch _).placed ?sound (fun n => ?emptied)
  case places =>
    refine (h.places c hc n).congr (fun k => ?_)
    rw [Entry.place_afterBranchLoss, and_iff_right hc]
    rfl
  case trunk => exact Entry.goneOrDisowned_afterBranchLoss (h.trunk hdown n) _ _ _
  case sound =>
    simp only [Work.setBranch, Function.update_self]
    exact BranchWork.sound_lost hstop
  case emptied =>
    simp only [Work.setBranch, Function.update_self]
    refine .nowhere rfl (Option.some_ne_none _).symm (Option.some_ne_none _).symm (fun k hk => ?_)
    exact ((Entry.place_afterBranchLoss _ _ _ _ _ _).1 hk).1 rfl

/-- R48, R73: a trunk loss, whatever the trunk link. -/
theorem State.inPlace_trunkLoss (sound : ∀ b, (s.work.branches b).Sound)
    (places : ∀ b n, (s.work.branches b).Locates b n (s.work.entries n).place) : s.trunkLoss.InPlace := by
  refine State.inPlace_drainEnd ?_
  simp only [State.work_mapBranches, State.work_mapEntries, State.mapEntries_branches, Branch.work_afterTrunkLoss]
  exact ⟨fun b => (sound b).trunkLost, fun b n => (places b n).trunkLost, fun _ n => Entry.goneOrDisowned_afterTrunkLoss _⟩

/-- R170 to R172: a port that loses its link. -/
theorem State.InPlace.linkLost {p : Port} (h : s.InPlace) : (s.linkLost p).InPlace := by
  cases p with
  | trunk => exact State.inPlace_trunkLoss h.placed.sound h.placed.places
  | branch b =>
    simp only [State.linkLost]
    split
    · refine State.inPlace_branchLoss ?_ (fun _ => ?_)
      · rw [State.work_modBranch]
        exact (h.placed.but b).setBranch _
      · rw [State.modBranch_get, if_pos rfl]
        rfl
    · rename_i hno
      have hsound := h.placed.sound b
      have hdown : s.branches[b].link.up = false := by
        by_contra hup
        exact hno (Branch.carries_iff.2 ⟨Bool.of_not_eq_false hup, Bool.of_not_eq_true (fun hr => hup (hsound.stopped hr))⟩)
      refine h.congr (State.work_modBranch_of_eq ?_)
      simp only [Branch.work, Branch.loseLink, LinkPort.lose, hdown]

/-! ### Engines and the places of work -/

theorem Branch.state_eq_active {br : Branch} :
    br.state = .active ↔ br.reset = false ∧ br.link.up = true ∧ br.hold = false := by
  unfold Branch.state
  cases br.reset <;> cases br.link.up <;> cases br.hold <;> simp

theorem Branch.state_eq_held {br : Branch} : br.state = .held ↔ br.reset = false ∧ br.link.up = true ∧ br.hold = true := by
  unfold Branch.state
  cases br.reset <;> cases br.link.up <;> cases br.hold <;> simp

theorem Branch.slotSource_eq_some {br : Branch} {src : Source} (h : br.slotSource = some src) :
    ∃ x, br.slot = some x ∧ src = .slot x.entry := by
  unfold Branch.slotSource at h
  split at h
  · rename_i x hx
    split at h <;> cases h
    exact ⟨x, hx, rfl⟩
  · cases h

theorem Branch.headSource_eq_some {br : Branch} {src : Source} (h : br.headSource = some src) :
    (∃ p rest, br.queue = .posted p :: rest ∧ src = .headPosted p)
      ∨ ∃ n rest, br.slot = none ∧ br.queue = .ref n :: rest ∧ src = .headRef n := by
  unfold Branch.headSource at h
  split at h
  · rename_i p rest hq
    split at h <;> cases h
    exact .inl ⟨p, rest, hq, rfl⟩
  · rename_i n rest hq
    split at h <;> cases h
    rename_i hslot
    exact .inr ⟨n, rest, hslot, hq, rfl⟩
  · cases h

/-- R60, R85: what the engine's choice finds. -/
theorem Branch.choice_eq_some {br : Branch} {src : Source} (h : br.choice = some src) :
    br.outstanding = none ∧ br.link.up = true
      ∧ ((∃ op a, br.probe = .pending op a ∧ src = .probe op a) ∨ (∃ x, br.slot = some x ∧ src = .slot x.entry)
        ∨ (∃ p rest, br.queue = .posted p :: rest ∧ src = .headPosted p)
        ∨ ∃ n rest, br.slot = none ∧ br.queue = .ref n :: rest ∧ src = .headRef n) := by
  unfold Branch.choice at h
  split at h
  · cases h
  · rename_i hout
    refine ⟨by simpa using hout, ?_⟩
    split at h
    · rename_i op a hprobe hactive
      cases h
      exact ⟨(Branch.state_eq_active.1 hactive).2.1, .inl ⟨op, a, hprobe, rfl⟩⟩
    · rename_i op a hprobe hheld
      cases h
      exact ⟨(Branch.state_eq_held.1 hheld).2.1, .inl ⟨op, a, hprobe, rfl⟩⟩
    · rename_i hactive _
      refine ⟨(Branch.state_eq_active.1 hactive).2.1, .inr ?_⟩
      rcases (Option.orElse_eq_some _ _ _).1 h with hslot | ⟨-, hhead⟩
      · exact .inl (Branch.slotSource_eq_some hslot)
      · exact .inr (Branch.headSource_eq_some hhead)
    · cases h

@[simp] theorem State.work_issue (s : State) (b : BranchId) (o : Outstanding) (ws : List Word) :
    (s.issue b o ws).work = s.work.setBranch b { s.branches[b].work with outstanding := some o, timer := true } := by
  rw [State.issue, State.work_handToPort, State.work_modBranch]
  rfl

theorem State.work_issueEntry (hn : s.entries[n] = .live l) :
    (s.issueEntry b n).work
      = (s.work.setBranch b { s.branches[b].work with outstanding := some (.entry n), timer := true }).setEntry n (.live l.issued) := by
  simp only [State.issueEntry, hn, State.work_issue, State.work_setEntry]
  rfl

/-- R28: an entry is issued from the slot or the head of the queue: the branch was v with nothing outstanding and is v' now, without the
entry's reference and with an empty slot. -/
theorem State.InPlace.issued {t : State} {v : BranchWork} (h : s.InPlace) (hn : s.entries[n] = .live l) (hb : l.req.branch = b)
    (hl : l.state ≠ .disowned) (hw : t.work = (s.work.setBranch b { v with outstanding := some (.entry n), timer := true }).setEntry n (.live l.issued))
    (sound : v.Sound) (hup : v.up = true) (hout : v.outstanding = none) (hslot : v.slot = none)
    (hcount : v.queue.count (.ref n) = 0) (others : ∀ m, m ≠ n → v.Locates b m s.entries[m].place)
    (posted : ∀ it ∈ s.branches[b].queue, it.isPosted = true → it ∈ v.queue) : t.InPlace := by
  have htrunk := h.trunk_up hn hl
  refine .of_work hw (h.placed.move (sound.issueEntry hup hout hslot) (fun c k hk => ?before) (fun c k hk => ?after)
    (fun hdown => absurd (htrunk.symm.trans hdown) Bool.noConfusion) ?here (fun m hm => ?others)) (fun hd => ?drains)
  case before =>
    rw [State.work_entries, hn] at hk
    exact (Entry.branch_of_place hk).trans hb
  case after => exact (Entry.branch_of_place hk).trans hb
  case here =>
    have hplace : (Entry.live l.issued).place = some (b, .engine) := by rw [← hb]; rfl
    rw [hplace]
    exact ⟨hcount.trans (if_neg (by simp)).symm, iff_of_true rfl rfl, iff_of_false (by simp [hslot]) (by simp)⟩
  case others =>
    exact (others m hm).setOutstanding (by simp [hout]) (by simpa using Ne.symm hm)
  case drains =>
    refine Work.Counts.setEntry (Work.Counts.setBranch (h.drains hd) (fun it hit hp => ?_)) (fun _ => rfl)
    exact ⟨it, posted it hit hp, hp⟩

end

/-- R24: what stands in a place. -/
theorem Entry.live_of_place {e : Entry} {b : BranchId} {k : Place} (h : e.place = some (b, k)) :
    ∃ l, e = .live l ∧ l.req.branch = b ∧ (k = .queue → l.state = .queued) ∧ (k = .slot → l.state = .waiting)
      ∧ (k = .engine → l.state = .issued ∨ l.state = .disowned) := by
  cases e with
  | free => cases h
  | live l => cases hl : l.state <;> simp only [Entry.place, hl] at h <;> cases h <;> simp [hl]

theorem BranchWork.Locates.setProbe {v : BranchWork} {b : BranchId} {n : EntryId} {p : Option (BranchId × Place)} {x : Probe}
    (h : v.Locates b n p) : ({ v with probe := x } : BranchWork).Locates b n p := ⟨h.queue, h.engine, h.slot⟩

/-- The head is replaced by an item that is SENT only if the old one is. -/
theorem BranchWork.Sound.setHead {v : BranchWork} {x y : Item} {q : List Item} (h : v.Sound) (hq : v.queue = x :: q)
    (hxy : y.isSent = x.isSent) : ({ v with queue := y :: q } : BranchWork).Sound where
  posted := by
    rw [h.posted, hq]
    simp [hxy]
  behind := by
    have hbehind := h.behind
    rwa [hq] at hbehind
  probe := h.probe
  timer := h.timer
  slot := h.slot
  stopped := h.stopped
  down hdown := by
    have hempty := (h.down hdown).1
    rw [hq] at hempty
    cases hempty

theorem BranchWork.Sound.setReset {v : BranchWork} {r : Bool} (h : v.Sound) (hr : r = true → v.up = false) :
    ({ v with reset := r } : BranchWork).Sound := ⟨h.posted, h.behind, h.probe, h.timer, h.slot, hr, h.down⟩

theorem BranchWork.Sound.raise {v : BranchWork} (h : v.Sound) (hr : v.reset = false) : ({ v with up := true } : BranchWork).Sound :=
  ⟨h.posted, h.behind, h.probe, h.timer, h.slot, fun hreset => absurd (hr.symm.trans hreset) Bool.noConfusion,
    fun hdown => by cases hdown⟩

/-- A probe that is not ISSUED takes the place of one that is not: while the link is DOWN, one that a loss leaves alone. -/
theorem BranchWork.Sound.setProbe {v : BranchWork} {x : Probe} (h : v.Sound) (hold : v.probe.isIssued = false)
    (hnew : x.isIssued = false) (hdown : v.up = false → x.afterLoss = x) : ({ v with probe := x } : BranchWork).Sound where
  posted := h.posted
  behind := h.behind
  probe := h.probe.trans (by rw [hold, hnew])
  timer := h.timer
  slot := h.slot
  stopped := h.stopped
  down hd := by
    obtain ⟨hq, ho, hs, -⟩ := h.down hd
    exact ⟨hq, ho, hs, hdown hd⟩

section
variable {s : State} {b : BranchId} {n : EntryId} {l : LiveEntry}

theorem State.work_branch_setQueue (s : State) (b : BranchId) (q : List Item) :
    (s.setQueue b q).branches[b].work = { s.branches[b].work with queue := q } := by
  rw [← State.work_branches, State.work_setQueue]
  simp [Work.setBranch]

/-! ### The engine's choice -/

/-- R94: the PENDING probe is issued. -/
theorem State.InPlace.issueProbe {op : ProbeOperation} {a : Address} (h : s.InPlace) (hup : s.branches[b].link.up = true)
    (hout : s.branches[b].outstanding = none) : (s.issueSource b (.probe op a)).InPlace := by
  have hw : (s.issueSource b (.probe op a)).work
      = s.work.setBranch b { s.branches[b].work with probe := .issued op a, outstanding := some .probe, timer := true } := by
    simp only [State.issueSource, State.work_issue, State.work_modBranch, Work.setBranch_setBranch, State.modBranch_get, if_true]
    rfl
  refine .of_work hw (h.placed.setBranch ((h.placed.sound b).issueProbe hup hout) (fun m => ?_))
    (fun hd => (h.drains hd).setBranch (fun it hit hp => ⟨it, hit, hp⟩))
  have hother := (h.placed.places b m).setOutstanding (o := some .probe) (x := true)
    (fun hm => Option.some_ne_none _ (hm.symm.trans hout)) (fun hm => by cases hm)
  exact hother.setProbe

/-- R62: the posted item at the head is issued. -/
theorem State.InPlace.issueHeadPosted {p : PostedItem} {rest : List Item} (h : s.InPlace) (hup : s.branches[b].link.up = true)
    (hout : s.branches[b].outstanding = none) (hq : s.branches[b].queue = .posted p :: rest) :
    (s.issueSource b (.headPosted p)).InPlace := by
  have hw : (s.issueSource b (.headPosted p)).work
      = s.work.setBranch b
          { s.branches[b].work with queue := .posted p.issued :: rest, outstanding := some .posted, timer := true } := by
    simp only [State.issueSource, State.work_issue, State.work_modBranch, Work.setBranch_setBranch, State.modBranch_get, if_true, hq,
      List.tail_cons]
    rfl
  refine .of_work hw (h.placed.setBranch ((h.placed.sound b).issuePosted hup hout hq rfl) (fun m => ?_))
    (fun hd => (h.drains hd).setBranch (fun it _ _ => ⟨_, List.mem_cons_self, rfl⟩))
  have hcount : (Item.posted p.issued :: rest).count (.ref m) = s.branches[b].queue.count (.ref m) := by
    rw [hq, count_cons_posted, count_cons_posted]
  exact ((h.placed.places b m).setQueue hcount).setOutstanding (fun hm => Option.some_ne_none _ (hm.symm.trans hout))
    (fun hm => by cases hm)

/-- R28: the WAITING entry in the slot is issued. -/
theorem State.InPlace.issueSlot {x : RetrySlot} (h : s.InPlace) (hup : s.branches[b].link.up = true)
    (hout : s.branches[b].outstanding = none) (hx : s.branches[b].slot = some x) : (s.issueSource b (.slot x.entry)).InPlace := by
  have hslot : (s.work.branches b).slot = some x.entry := congrArg (Option.map RetrySlot.entry) hx
  have hplace := (h.placed.places b x.entry).slot.1 hslot
  obtain ⟨l, hn, hb, -, hwaiting, -⟩ := Entry.live_of_place hplace
  have hw : (s.issueSource b (.slot x.entry)).work
      = (s.work.setBranch b
          { ({ s.branches[b].work with slot := none } : BranchWork) with
            outstanding := some (.entry x.entry), timer := true }).setEntry x.entry (.live l.issued) := by
    simp only [State.issueSource]
    rw [State.work_issueEntry (s := s.modBranch b _) hn, State.work_modBranch, Work.setBranch_setBranch, State.modBranch_get,
      if_pos rfl]
    rfl
  refine h.issued hn hb (by simp [hwaiting rfl]) hw (h.placed.sound b).clearSlot hup hout rfl ?_ (fun m hm => ?_) (fun it hit _ => hit)
  · exact (h.placed.places b x.entry).queue.trans (if_neg (by rw [hplace]; simp))
  · exact (h.placed.places b m).setSlot (fun hs => hm (Option.some_injective _ (hs.symm.trans hslot))) (Option.some_ne_none _).symm

/-- R28: the QUEUED entry whose reference is at the head is issued. -/
theorem State.InPlace.issueHeadRef {rest : List Item} (h : s.InPlace) (hup : s.branches[b].link.up = true)
    (hout : s.branches[b].outstanding = none) (hslot : s.branches[b].slot = none) (hq : s.branches[b].queue = .ref n :: rest) :
    (s.issueSource b (.headRef n)).InPlace := by
  have hq' : (s.work.branches b).queue = .ref n :: rest := hq
  have hcount := (h.placed.places b n).queue
  rw [hq', List.count_cons_self] at hcount
  have hplace : (s.work.entries n).place = some (b, .queue) := by
    by_contra hno
    rw [if_neg hno] at hcount
    cases hcount
  rw [if_pos hplace] at hcount
  obtain ⟨l, hn, hb, hqueued, -⟩ := Entry.live_of_place hplace
  have hn' : (s.setQueue b rest).entries[n] = .live l := by
    simp only [State.setQueue_frame]
    exact hn
  have hw : (s.issueSource b (.headRef n)).work
      = (s.work.setBranch b
          { ({ s.branches[b].work with queue := rest } : BranchWork) with
            outstanding := some (.entry n), timer := true }).setEntry n (.live l.issued) := by
    simp only [State.issueSource, hq, List.tail_cons]
    rw [State.work_issueEntry hn', State.work_setQueue, Work.setBranch_setBranch, State.work_branch_setQueue]
  refine h.issued hn hb (by simp [hqueued rfl]) hw ((h.placed.sound b).dequeue hq' ?_) hup hout ?_ ?_ (fun m hm => ?_)
    (fun it hit hp => ?_)
  · exact fun hm => Option.some_ne_none _ (hm.symm.trans hout)
  · exact congrArg (Option.map RetrySlot.entry) hslot
  · exact Nat.succ_injective hcount
  · refine (h.placed.places b m).setQueue ?_
    rw [hq', count_cons_ref_of_ne hm]
  · rw [hq] at hit
    rcases List.mem_cons.1 hit with rfl | hit
    · cases hp
    · exact hit

/-- R85: the engine's choice. -/
theorem State.InPlace.choose (h : s.InPlace) : (s.choose b).InPlace := by
  unfold State.choose
  split
  · rename_i src hsrc
    obtain ⟨hout, hup, hcases⟩ := Branch.choice_eq_some hsrc
    rcases hcases with ⟨op, a, -, rfl⟩ | ⟨x, hx, rfl⟩ | ⟨p, rest, hq, rfl⟩ | ⟨n, rest, hslot, hq, rfl⟩
    · exact h.issueProbe hup hout
    · exact h.issueSlot hup hout hx
    · exact h.issueHeadPosted hup hout hq
    · exact h.issueHeadRef hup hout hslot hq
  · exact h

end

section
variable {s : State} {b : BranchId} {n : EntryId} {l : LiveEntry}

/-! ### The end of an issue -/

theorem State.work_clearOutstanding (s : State) (b : BranchId) :
    (s.clearOutstanding b).work = s.work.setBranch b { s.branches[b].work with outstanding := none, timer := false } :=
  s.work_modBranch b _

theorem State.clearOutstanding_entries (s : State) (b : BranchId) : (s.clearOutstanding b).entries = s.entries := rfl

theorem State.clearOutstanding_get (s : State) (b : BranchId) :
    (s.clearOutstanding b).branches[b]
      = { s.branches[b] with
          outstanding := none, responseTimer := none
          toSend := s.branches[b].toSend.filter (fun p => match p with | .noticeAnswer _ => true | .request _ => false) } :=
  (State.modBranch_get s b b _).trans (if_pos rfl)

/-- R29 to R34: the outstanding entry n of branch b becomes e, which stands nowhere, or in the slot x. -/
theorem Work.Placed.endEntry {w : Work} {e : Entry} {x : Option EntryId} (h : w.Placed)
    (ho : (w.branches b).outstanding = some (.entry n)) (hslot : x = some n ↔ e.place = some (b, .slot)) (hx : x = none ∨ x = some n)
    (he : ∀ c k, e.place = some (c, k) → c = b ∧ k = .slot) (gone : w.trunkUp = false → e.goneOrDisowned = true) :
    ((w.setBranch b { w.branches b with outstanding := none, timer := false, slot := x }).setEntry n e).Placed := by
  have hold : (w.branches b).slot = none := (h.sound b).slot n ho
  have hplace := (h.places b n).engine.1 ho
  refine h.move ((h.sound b).endEntry ho) (fun c k hk => ?before) (fun c k hk => (he c k hk).1) gone ?here (fun m hm => ?others)
  case before =>
    rw [hplace] at hk
    cases hk
    rfl
  case here =>
    refine ⟨(h.places b n).queue.trans ?_, iff_of_false (Option.some_ne_none _).symm (fun hk => by cases (he _ _ hk).2), hslot⟩
    rw [if_neg (by rw [hplace]; simp), if_neg (fun hk => by cases (he _ _ hk).2)]
  case others =>
    have hother := (h.places b m).setOutstanding (o := none) (x := false)
      (fun hm' => hm (by rw [ho] at hm'; cases hm'; rfl)) (Option.some_ne_none _).symm
    refine hother.setSlot (fun hs => Option.some_ne_none _ (hs.symm.trans hold)) (fun hs => ?_)
    rcases hx with rfl | rfl
    · cases hs
    · exact hm (Option.some_injective _ hs).symm

/-- The end of the issue of an entry that leaves the branch. -/
theorem State.InPlace.placed_leave {e : Entry} (h : s.InPlace) (ho : s.branches[b].outstanding = some (.entry n))
    (he : e.place = none) (gone : s.trunk.link.up = false → e.goneOrDisowned = true) :
    ((s.clearOutstanding b).setEntry n e).work.Placed := by
  have hold : s.branches[b].work.slot = none := (h.placed.sound b).slot n ho
  have hw : ({ s.branches[b].work with outstanding := none, timer := false } : BranchWork)
      = { s.branches[b].work with outstanding := none, timer := false, slot := none } := by rw [← hold]
  rw [State.work_setEntry, State.work_clearOutstanding, hw]
  exact h.placed.endEntry ho (by simp [he]) (.inl rfl) (fun c k hk => by rw [he] at hk; cases hk) gone

/-- R29 to R34: the issue of an entry ends. -/
theorem State.InPlace.placed_endEntry {e : Ending} (h : s.InPlace) (ho : s.branches[b].outstanding = some (.entry n)) :
    ((s.clearOutstanding b).endEntry b n e).work.Placed := by
  obtain ⟨l, hn, hb, -, -, hstate⟩ := Entry.live_of_place ((h.placed.places b n).engine.1 ho)
  have hn : s.entries[n] = .live l := hn
  simp only [State.endEntry, State.clearOutstanding_entries, hn]
  rcases hstate rfl with hl | hl <;> simp only [hl]
  · have hup := h.trunk_up hn (by simp [hl])
    have hgone : ∀ e : Entry, s.trunk.link.up = false → e.goneOrDisowned = true := fun e hdown =>
      absurd (hup.symm.trans hdown) Bool.noConfusion
    have hcomplete : ∀ st ws, ((s.clearOutstanding b).complete n l st ws).work.Placed := fun st ws =>
      h.placed_leave ho rfl (hgone _)
    cases e with
    | done ws => exact hcomplete _ _
    | refuse => exact hcomplete _ _
    | timeout => exact hcomplete _ _
    | later =>
      simp only [State.endIssued]
      split
      · simp only [State.park, State.work_modBranch, State.work_setEntry, State.work_clearOutstanding, Work.setBranch_setEntry,
          Work.setBranch_setBranch, State.setEntry_branches, State.clearOutstanding_get]
        have hplace : (Entry.live { l with state := .waiting }).place = some (b, .slot) := by rw [← hb]; rfl
        exact h.placed.endEntry ho (iff_of_true rfl hplace) (.inr rfl)
          (fun c k hk => by rw [hplace] at hk; cases hk; exact ⟨rfl, rfl⟩) (hgone _)
      · exact hcomplete _ _
  · exact h.placed_leave ho rfl (fun _ => rfl)

/-- R63 to R66: the issue of the posted item at the head ends. -/
theorem State.InPlace.placed_endPosted {e : Ending} (h : s.InPlace) (ho : s.branches[b].outstanding = some .posted) :
    ((s.clearOutstanding b).endPosted b e).work.Placed := by
  have hsound := h.placed.sound b
  have hsent : s.branches[b].queue.head?.any Item.isSent = true := hsound.posted.1 ho
  obtain ⟨p, rest, hq⟩ : ∃ p rest, s.branches[b].queue = .posted p :: rest := by
    cases hq : s.branches[b].queue with
    | nil => rw [hq] at hsent; cases hsent
    | cons it rest =>
      cases it with
      | posted p => exact ⟨p, rest, rfl⟩
      | ref m => rw [hq] at hsent; cases hsent
  obtain ⟨hhead, hbehind⟩ := hsound.rest_not_sent hq
  have hrest : ∀ x ∈ rest, x.waits = true := by
    have hall : ∀ x ∈ s.branches[b].queue.tail, x.waits = true := hsound.behind
    rwa [hq] at hall
  have hout : ∀ m, s.branches[b].work.outstanding ≠ some (.entry m) := fun m hm => by cases ho.symm.trans hm
  have hq' : ∀ m, s.branches[b].queue.count (.ref m) = rest.count (.ref m) := fun m => by rw [hq, count_cons_posted]
  have hleave : ((s.clearOutstanding b).setQueue b rest).work.Placed := by
    simp only [State.work_setQueue, State.work_clearOutstanding, Work.setBranch_setBranch, State.clearOutstanding_get]
    exact h.placed.setBranch (hsound.endPosted ho hhead hbehind)
      (fun m => ((h.placed.places b m).setQueue (hq' m).symm).setOutstanding (hout m) (Option.some_ne_none _).symm)
  have hdrop : ∀ r, ((s.clearOutstanding b).dropHead b p rest r).work.Placed := fun r => by
    rw [State.dropHead, State.reportDrop, State.work_handFault]
    exact hleave
  simp only [State.endPosted, State.clearOutstanding_get, hq]
  cases e with
  | done ws => exact hleave
  | refuse => exact hdrop _
  | timeout => exact hdrop _
  | later =>
    simp only
    split
    · simp only [State.backOff, State.work_modBranch, State.work_clearOutstanding, Work.setBranch_setBranch,
        State.clearOutstanding_get]
      refine h.placed.setBranch (hsound.endPosted ho rfl hrest) (fun m => ?_)
      refine ((h.placed.places b m).setQueue ?_).setOutstanding (hout m) (Option.some_ne_none _).symm
      rw [count_cons_posted]
      exact (hq' m).symm
    · exact hdrop _

theorem Probe.not_isIssued_finish (p : Probe) (e : Ending) : (p.finish e).isIssued = false := by cases p <;> rfl

/-- R89, R91: the outstanding request of a branch ends. -/
theorem State.InPlace.endIssue {o : Outstanding} {e : Ending} (h : s.InPlace) (ho : s.branches[b].outstanding = some o) :
    (s.endIssue b o e).InPlace := by
  cases o with
  | entry n => exact State.inPlace_drainEnd (h.placed_endEntry ho)
  | posted => exact State.inPlace_drainEnd (h.placed_endPosted ho)
  | probe =>
    have hw : (s.endIssue b .probe e).work
        = s.work.setBranch b
            { s.branches[b].work with outstanding := none, timer := false, probe := s.branches[b].probe.finish e } := by
      simp only [State.endIssue, State.work_modBranch, State.work_clearOutstanding, Work.setBranch_setBranch,
        State.clearOutstanding_get]
      rfl
    refine .of_work hw (h.placed.setBranch ((h.placed.sound b).endProbe ho (Probe.not_isIssued_finish _ _)) (fun m => ?_))
      (fun hd => (h.drains hd).setBranch (fun it hit hp => ⟨it, hit, hp⟩))
    exact ((h.placed.places b m).setOutstanding (o := none) (x := false) (fun hm => by cases ho.symm.trans hm)
      (Option.some_ne_none _).symm).setProbe

theorem State.InPlace.takeAnswer {a : TargetAnswer} {count : BitVec 6} {ws : List Word} (h : s.InPlace) :
    (s.takeAnswer b a count ws).InPlace := by
  unfold State.takeAnswer
  split
  · exact h
  · rename_i ho
    split
    · exact h.endIssue ho
    · exact h

theorem State.InPlace.takeNotice {count : BitVec 3} {code : BitVec 8} {ws : List Word} (h : s.InPlace) :
    (s.takeNotice b count code ws).InPlace := by
  unfold State.takeNotice
  split
  · exact h
  · split
    · exact h.congr (by simp)
    · exact h.handToPort

theorem State.InPlace.serveTarget {p : TargetPacket} (h : s.InPlace) : (s.serveTarget b p).InPlace := by
  cases p with
  | answer a count ws => exact h.takeAnswer
  | notice count code ws => exact h.takeNotice
  | other kind => exact h

/-! ### Intervals and timers -/

/-- R88: the interval of the slot entry passes; the entry stays in the slot. -/
theorem State.InPlace.passInterval (h : s.InPlace) : (s.modBranch b Branch.passInterval).InPlace := by
  refine h.congr (State.work_modBranch_of_eq ?_)
  simp only [Branch.work, Branch.passInterval, Option.map_map]
  rfl

/-- R64: the head in BACKOFF becomes READY. -/
theorem State.InPlace.endBackoff (h : s.InPlace) : (s.modBranch b Branch.endBackoff).InPlace := by
  by_cases hback : ∃ p rest i, s.branches[b].queue = .posted p :: rest ∧ p.state = .backoff i
  · obtain ⟨p, rest, i, hq, hp⟩ := hback
    have hend : s.branches[b].endBackoff = { s.branches[b] with queue := .posted { p with state := .ready } :: rest } := by
      simp only [Branch.endBackoff, hq, hp]
    refine h.modBranch ?_ (fun m => ?_) (fun it hit _ => ?_) <;> rw [hend]
    · exact (h.placed.sound b).setHead hq (by simp [Item.isSent, hp])
    · refine (h.placed.places b m).setQueue ?_
      rw [count_cons_posted]
      exact (count_cons_posted _ _).symm.trans (congrArg (List.count (.ref m)) hq.symm)
    · exact ⟨_, List.mem_cons_self, rfl⟩
  · have hend : s.branches[b].endBackoff = s.branches[b] := by
      unfold Branch.endBackoff
      split
      · rename_i p rest hq
        split
        · rename_i i hp
          exact absurd ⟨p, rest, i, hq, hp⟩ hback
        · rfl
      · rfl
    exact h.congr (State.work_modBranch_of_eq (by rw [hend]))

theorem State.InPlace.expireCollection (h : s.InPlace) : (s.expireCollection n).InPlace := by
  unfold State.expireCollection
  split
  · rename_i l hn
    split
    · rename_i c hc
      exact (h.setEntry (by simp only [hn, Entry.place, hc]) rfl (fun _ => rfl)).handFault
    · exact h
  · exact h

theorem State.InPlace.expireDrain (h : s.InPlace) : s.expireDrain.InPlace := by
  unfold State.expireDrain
  split
  · exact h.endCommit
  · exact h

/-! ### Links -/

variable {p : Port}

theorem State.InPlace.emit {f : Frame} (h : s.InPlace) : (s.emit p f).InPlace := h.congr (by simp)

theorem State.InPlace.modLink {f : LinkPort → LinkPort} (h : s.InPlace) (hf : ∀ l, (f l).up = l.up) : (s.modLink p f).InPlace :=
  h.congr (State.work_modLink hf)

/-- R169: a port comes UP; a branch port only while its reset flag is clear. -/
theorem State.InPlace.comeUp (h : s.InPlace) (hm : s.mayTrain p = true) : (s.comeUp p).InPlace := by
  cases p with
  | branch b =>
    have hreset : s.branches[b].reset = false := by simpa [State.mayTrain] using hm
    refine State.InPlace.modBranch (s := s) (b := b) (f := fun br => { br with link := s.branches[b].link.raised }) h
      ((h.placed.sound b).raise hreset) (fun m => ?_) (fun it hit hp => ⟨it, hit, hp⟩)
    exact ⟨(h.placed.places b m).queue, (h.placed.places b m).engine, (h.placed.places b m).slot⟩
  | trunk =>
    have hup : (s.setLink .trunk (s.link .trunk).raised).InPlace :=
      ⟨⟨h.placed.sound, h.placed.places, fun hdown => by cases hdown⟩, h.drains⟩
    simp only [State.comeUp]
    split
    · refine State.InPlace.raise ?_
      exact hup.congr rfl
    · exact hup

theorem State.mayTrain_modLink (s : State) (p : Port) (f : LinkPort → LinkPort) : (s.modLink p f).mayTrain p = s.mayTrain p := by
  cases p with
  | trunk => rfl
  | branch b => simp only [State.mayTrain, State.modLink, State.setLink, State.modBranch_get, if_true]

theorem State.InPlace.upIfTrained (h : s.InPlace) (hm : s.mayTrain p = true) : (s.upIfTrained p).InPlace := by
  unfold State.upIfTrained
  split
  · exact h.comeUp hm
  · exact h

theorem State.InPlace.receiveData {k : BitVec 8} {ws : List Word} (h : s.InPlace) : (s.receiveData p k ws).InPlace := by
  simp only [State.receiveData]
  split
  · split
    · exact ((h.congr (State.work_deliver s p ws)).modLink (by intro; rfl)).emit
    · exact h
  · split <;> exact h.emit

theorem State.InPlace.receiveAck {k : BitVec 8} (h : s.InPlace) : (s.receiveAck p k).InPlace := by
  unfold State.receiveAck
  split
  · exact h
  · refine State.InPlace.congr ?_ (State.work_roomFreed _ p)
    exact h.modLink (by intro; rfl)

/-- R166 to R170: a frame arrives. -/
theorem State.InPlace.receive {f : Frame} (h : s.InPlace) : (s.receive p f).InPlace := by
  have hcount : (s.modLink p (fun l => { l with checkFailures := 0 })).InPlace := h.modLink (by intro; rfl)
  simp only [State.receive]
  split
  · cases f with
    | data k ws => exact hcount.receiveData
    | ack k => exact hcount.receiveAck
    | resend k => exact hcount.congr rfl
    | train ready => exact hcount.linkLost
  · cases f with
    | train ready =>
      simp only
      split
      · rename_i hm
        refine (hcount.modLink (by intro; rfl)).upIfTrained ?_
        rw [State.mayTrain_modLink, State.mayTrain_modLink]
        exact hm
      · exact hcount
    | data | ack | resend => exact hcount.modLink (by intro; rfl)

theorem State.InPlace.receiveFailure (h : s.InPlace) : (s.receiveFailure p).InPlace := by
  have hcount : (s.modLink p (fun l => { l with checkFailures := l.checkFailures + 1 })).InPlace := h.modLink (by intro; rfl)
  simp only [State.receiveFailure]
  split
  · split
    · exact hcount.emit.linkLost
    · exact hcount.emit
  · exact hcount.modLink (by intro; rfl)

theorem State.InPlace.receiveWords {raw : List Word} (h : s.InPlace) : (s.receiveWords p raw).InPlace := by
  unfold State.receiveWords
  split
  · exact h.receive
  · exact h.receiveFailure

theorem State.InPlace.expireAck (h : s.InPlace) : (s.expireAck p).InPlace := by
  simp only [State.expireAck]
  split
  · split
    · exact h.linkLost
    · refine State.InPlace.congr (s := s.modLink p _) (h.modLink ?_) rfl
      intro
      rfl
  · exact h

theorem State.InPlace.sendTrain (h : s.InPlace) : (s.sendTrain p).InPlace := by
  simp only [State.sendTrain]
  split
  · rename_i hm
    refine (h.emit.modLink (by intro; rfl)).upIfTrained ?_
    rw [State.mayTrain_modLink]
    exact (Bool.and_eq_true _ _ ▸ hm).2
  · exact h

theorem State.InPlace.signalLost (h : s.InPlace) : (s.signalLost p).InPlace := by
  unfold State.signalLost
  split
  · exact h.linkLost
  · exact h

theorem Entry.place_unfence (b : BranchId) (seq : BitVec 16) (e : Entry) : (e.unfence b seq).place = e.place := by
  cases e with
  | free => rfl
  | live l =>
    cases hl : l.state with
    | complete c =>
      simp only [Entry.unfence, hl]
      split <;> simp [Entry.place, hl]
    | queued | issued | waiting | disowned => simp only [Entry.unfence, hl]

theorem Entry.goneOrDisowned_unfence {e : Entry} (b : BranchId) (seq : BitVec 16) (h : e.goneOrDisowned = true) :
    (e.unfence b seq).goneOrDisowned = true := by
  cases e with
  | free => rfl
  | live l =>
    have hl : l.state = .disowned := by simpa [Entry.goneOrDisowned] using h
    simp only [Entry.unfence, hl]
    exact h

/-- A change of entries that leaves each in its place. -/
theorem State.InPlace.mapEntries {f : Entry → Entry} (h : s.InPlace) (hplace : ∀ e, (f e).place = e.place)
    (hgone : ∀ e, e.goneOrDisowned = true → (f e).goneOrDisowned = true) : (s.mapEntries f).InPlace := by
  refine .of_work (s.work_mapEntries f) ⟨h.placed.sound, fun b n => ?_, fun hdown n => hgone _ (h.placed.trunk hdown n)⟩
    (fun hd => (h.drains hd).mono (fun n hn => ?_) (fun b it hit hp => ⟨it, hit, hp⟩))
  · rw [hplace]
    exact h.placed.places b n
  · rw [hplace]
    exact hn

theorem State.InPlace.noticeDeparts {m : Notice} (h : s.InPlace) : (s.noticeDeparts m).InPlace := by
  unfold State.noticeDeparts
  split
  · exact h.mapEntries (Entry.place_unfence _ _) (fun _ => Entry.goneOrDisowned_unfence _ _)
  · simp only [State.alertDeparts]
    split
    · exact h.congr rfl
    · exact h.congr rfl

/-- R106: the Trunk Port's choice changes no place of work: a notice that leaves takes only fences with it. -/
theorem State.InPlace.transmit (h : s.InPlace) : s.transmit.InPlace := by
  unfold State.transmit
  split
  · split
    · exact h.congr (State.work_sendData _ _ _)
    · refine State.InPlace.noticeDeparts ?_
      exact h.congr (State.work_sendData _ _ _)
    · exact h
  · exact h

end

section
variable {s : State} {b : BranchId} {n : EntryId} {l : LiveEntry}

/-! ### Management writes -/

/-- R119 to R125: a commit action; a drain starts only while the drain condition does not hold (R120). -/
theorem State.InPlace.commitAction {action : BitVec 4} (h : s.InPlace) : (s.commitAction action).InPlace := by
  have hdrain : s.startDrain.InPlace := by
    unfold State.startDrain
    split
    · exact h.commitSwap
    · rename_i hno
      exact ⟨⟨h.placed.sound, h.placed.places, h.placed.trunk⟩,
        fun _ => State.drained_eq_false_iff.1 (Bool.of_not_eq_true hno)⟩
  have hcancel : s.cancelDrain.InPlace := by
    unfold State.cancelDrain
    split
    · exact h.endCommit
    · exact h
  unfold State.commitAction
  split
  · exact h.commitSwap
  · split
    · exact hdrain
    · split
      · exact hcancel
      · split
        · exact h.congr rfl
        · exact h

/-- R79, R80: the flags of a branch are stored; a reset flag that is newly set stops the link, which empties the branch. -/
theorem State.InPlace.applyFlags {hold reset : Bool} (h : s.InPlace) : (s.applyFlags b hold reset).InPlace := by
  have hsound := h.placed.sound b
  simp only [State.applyFlags]
  split
  · rename_i hset
    split
    · refine State.inPlace_branchLoss ?_ (fun _ => ?_)
      · rw [State.work_modBranch, State.work_modBranch]
        exact ((h.placed.but b).setBranch _).setBranch _
      · rw [State.modBranch_get, if_pos rfl]
        rfl
    · rename_i hno
      have hdown : s.branches[b].link.up = false := by
        by_contra hup
        refine hno (Branch.carries_iff.2 ⟨Bool.of_not_eq_false hup, ?_⟩)
        simp only [Bool.and_eq_true, Bool.not_eq_true'] at hset
        exact hset.2
      have hw : ((s.modBranch b (fun br => br.setFlags hold reset)).modBranch b Branch.loseLink).work
          = s.work.setBranch b { s.branches[b].work with reset := reset } := by
        rw [State.work_modBranch, State.work_modBranch, Work.setBranch_setBranch, State.modBranch_get, if_pos rfl]
        simp only [Branch.work, Branch.loseLink, Branch.setFlags, LinkPort.lose, hdown]
      refine .of_work hw (h.placed.setBranch (hsound.setReset (fun _ => hdown)) (fun m => ?_))
        (fun hd => (h.drains hd).setBranch (fun it hit hp => ⟨it, hit, hp⟩))
      exact ⟨(h.placed.places b m).queue, (h.placed.places b m).engine, (h.placed.places b m).slot⟩
  · rename_i hset
    refine h.modBranch (hsound.setReset (fun hr => hsound.stopped ?_)) (fun m => ?_) (fun it hit hp => ⟨it, hit, hp⟩)
    · by_contra hno
      have hclear : s.branches[b].reset = false := Bool.of_not_eq_true hno
      have hnew : reset = true := hr
      exact hset (by rw [hnew, hclear]; rfl)
    · exact ⟨(h.placed.places b m).queue, (h.placed.places b m).engine, (h.placed.places b m).slot⟩

theorem State.InPlace.writeBranch {v : BranchSettings} (h : s.InPlace) : (s.writeBranch b v).InPlace := by
  have hstore : (s.modBranch b (fun br => br.store v)).InPlace := h.congr (State.work_modBranch_of_eq rfl)
  simp only [State.writeBranch]
  split
  · exact hstore.applyFlags
  · refine State.InPlace.applyFlags ?_
    exact hstore.congr (State.work_syncLevel _ _)

theorem Probe.not_isIssued_of_not_busy {p : Probe} (h : p.busy = false) : p.isIssued = false := by
  cases p with
  | issued op a => cases h
  | idle | pending | done => rfl

/-- R93: a probe starts on a branch whose probe is not busy. -/
theorem State.InPlace.startProbe {op : ProbeOperation} {a : Address} (h : s.InPlace) (hbusy : s.branches[b].probe.busy = false) :
    (s.modBranch b (fun br => br.startProbe op a)).InPlace := by
  have hold := Probe.not_isIssued_of_not_busy hbusy
  refine h.modBranch ((h.placed.sound b).setProbe hold ?_ (fun hdown => ?_)) (fun m => (h.placed.places b m).setProbe)
    (fun it hit hp => ⟨it, hit, hp⟩) <;> unfold Branch.startProbe
  · simp only
    split <;> rfl
  · have hcarries : s.branches[b].carries = false := by
      have hup : s.branches[b].link.up = false := hdown
      simp only [Branch.carries, hup, Bool.false_and]
    simp only [hcarries]
    rfl

theorem State.InPlace.foldl {α : Type} {f : State → α → State} (hf : ∀ u a, u.InPlace → (f u a).InPlace) (as : List α)
    (h : s.InPlace) : (as.foldl f s).InPlace := by
  induction as generalizing s with
  | nil => exact h
  | cons a as ih => exact ih (hf s a h)

/-- R145: an MW of ALERT changes alerts and notices only. -/
theorem State.InPlace.writeAlert {ws : List Word} (h : s.InPlace) : (s.writeAlert ws).InPlace := by
  have hack : ∀ u : State, u.InPlace → (u.acknowledge ws).InPlace := fun u hu => by
    have hfold := hu.foldl (f := fun t c => if ackFlag ws c then t.putAlert c (t.alerts.get c).acknowledge else t)
      (fun t c ht => by
        split
        · exact ht.congr rfl
        · exact ht) AlertKind.all
    simp only [State.acknowledge]
    split
    · exact hfold.raise
    · exact hfold
  have henable : ∀ (u : State) (c : AlertKind), u.InPlace → (u.enable c (enableFlag ws c)).InPlace := fun u c hu => by
    simp only [State.enable]
    split <;> exact hu.congr rfl
  unfold State.writeAlert
  refine State.InPlace.foldl henable AlertKind.all (hack _ ?_)
  exact h.congr rfl

theorem State.reset_inPlace : State.reset.InPlace :=
  State.inPlace_iff.1 ⟨State.reset_entryPlaces, State.reset_engineLaw, State.reset_downLaw, State.reset_trunkDownLaw,
    State.reset_drainLaw⟩

/-- R162, R163: after every reset the work is that after power-up, whatever the trunk link. -/
theorem State.inPlace_resetAll (s : State) (c : ResetCause) (p : TrunkPort) : (s.resetAll c p).InPlace := by
  have hw : (s.resetAll c p).work = { State.reset.work with trunkUp := p.link.up } := by
    rw [State.resetAll, State.work_raise]
    rfl
  refine .of_work hw ⟨State.reset_inPlace.placed.sound, State.reset_inPlace.placed.places, fun _ n => ?_⟩ (fun hd => by cases hd)
  rw [State.work_entries, State.reset_entries_get]
  rfl

/-- R157: the effect of an MW that is not refused for its value or as busy. -/
theorem State.InPlace.applyWrite {o : Object} {ws : List Word} (h : s.InPlace) (hbusy : s.objectBusy o ws = false) :
    (s.applyWrite o ws).InPlace := by
  cases o with
  | commit => exact h.commitAction
  | branch b => exact h.writeBranch
  | probe b =>
    simp only [State.applyWrite]
    split
    · exact h.startProbe hbusy
    · exact h
  | alert => exact h.writeAlert
  | part => exact s.inPlace_resetAll _ _
  | winStaged | req | timing | ident | winActive | fault | entry => exact h.congr rfl

theorem State.InPlace.refuseManagement {kind : BitVec 8} {m : ManagementRequest} {c : FaultCauses} {st : CplStatus} (h : s.InPlace) :
    (s.refuseManagement kind m c st).InPlace := h.handFault.answer

theorem State.objectBusy_answer (s : State) (r : Requester) (t : Tag) (a : AnswerBody) (o : Object) (ws : List Word) :
    (s.answer r t a).objectBusy o ws = s.objectBusy o ws := by cases o <;> simp [State.objectBusy, State.draining]

theorem State.InPlace.serveWrite {m : ManagementRequest} (h : s.InPlace) : (s.serveWrite m).InPlace := by
  simp only [State.serveWrite]
  split
  · exact h.refuseManagement
  · split
    · exact h.refuseManagement
    · split
      · exact h.refuseManagement
      · split
        · exact h.refuseManagement
        · rename_i hvalue
          simp only [Bool.or_eq_true, not_or, Bool.not_eq_true] at hvalue
          exact h.answer.applyWrite ((State.objectBusy_answer _ _ _ _ _ _).trans hvalue.2)

theorem State.InPlace.serveRead {m : ManagementRequest} (h : s.InPlace) : (s.serveRead m).InPlace := by
  unfold State.serveRead
  split
  · exact h.refuseManagement
  · split
    · exact h.refuseManagement
    · rename_i o _
      have hread : (s.afterRead o).InPlace := by cases o <;> exact h.congr rfl
      exact hread.answer

/-! ### One command -/

/-- A packet that is taken is served while the trunk is UP. -/
theorem State.InPlace.takeRequest {p : TrunkPacket} {serve : State → State} (h : s.InPlace)
    (hserve : ∀ u : State, u.InPlace → u.trunk.link.up = true → (serve u).InPlace) : (s.takeRequest p serve).InPlace := by
  unfold State.takeRequest
  split
  · rename_i hoffered
    have hup : s.trunk.link.up = true := (Bool.and_eq_true _ _ ▸ hoffered).1
    split
    · exact hserve _ (h.congr rfl) hup
    · split
      · exact hserve _ h hup
      · exact h
  · exact h

theorem State.InPlace.takeTarget {p : TargetPacket} {serve : State → State} (h : s.InPlace)
    (hserve : ∀ u : State, u.InPlace → (serve u).InPlace) : (s.takeTarget b p serve).InPlace :=
  State.takeTarget_elim (P := State.InPlace) h (hserve _ h) (fun _ => hserve _ (h.congr (State.work_modBranch_of_eq rfl)))

end

/-- Every command keeps the places of work. -/
theorem exec_inPlace {c : Instr} {s t : State} (hs : s.InPlace) (h : exec c s = .next t) : t.InPlace := by
  have hquiet : s.quiet.InPlace := hs.congr rfl
  cases c <;> (cases h)
  case read | confirmedWrite | postedWrite | exchange => exact hquiet.takeRequest (fun u hu hup => hu.decodeMemory hup)
  case abandon => exact hquiet.takeRequest (fun u hu _ => hu.decodeAbandon)
  case unknownKind => exact hquiet.takeRequest (fun u hu _ => hu.handFault.answer)
  case managementRead => exact hquiet.takeRequest (fun u hu _ => hu.serveRead)
  case managementWrite | winStagedWrite | immediate | drain | cancel | revert | reqWrite | take | branchSettingsWrite | holdFlagSet
      | holdFlagCleared | resetFlagSet | resetFlagCleared | probeRead | probeWrite | alertAcknowledge | alertEnable | timingWrite
      | partReset =>
    exact hquiet.takeRequest (fun u hu _ => hu.serveWrite)
  case hardReset | powerUp => exact State.inPlace_resetAll _ _ _
  case engineChoice => exact hquiet.choose
  case done | later | refuse => exact hquiet.takeTarget (fun u hu => hu.takeAnswer)
  case bntc => exact hquiet.takeTarget (fun u hu => hu.takeNotice)
  case strayTargetPacket => exact hquiet.takeTarget (fun u hu => hu.serveTarget)
  case responseTimeout =>
    split
    · rename_i ho _
      exact hquiet.endIssue ho
    · exact hquiet
  case retryIntervalPasses => exact hquiet.passInterval
  case backoffIntervalEnds => exact hquiet.endBackoff
  case collectionTimerExpiry => exact hquiet.expireCollection
  case drainTimerExpiry => exact hquiet.expireDrain
  case transmitChoice => exact hquiet.transmit
  case dataFrame =>
    split
    · exact hquiet.receiveFailure
    · exact hquiet.receive
  case ack | resend | train => exact hquiet.receive
  case trainFrameSend => exact hquiet.sendTrain
  case checkFailure => exact hquiet.receiveWords
  case acknowledgementTimerExpiry => exact hquiet.expireAck
  case signalAbsent => exact hquiet.signalLost

/-- Settles O57: the five laws are laws on the work in progress, and each operation is one change of one branch and one entry, or a loss,
or a reset; an operation that removes counted work looks at the drain last. -/
theorem placesOfWorkAreKept : Obligations.PlacesOfWorkAreKept := by
  refine kept_of_exec (fun _ _ hs => hs) (fun c s t hs h => ?_)
  exact State.inPlace_iff.2 (exec_inPlace (State.inPlace_iff.1 hs) h)

end Sys2Proof.Machine

namespace Sys2Proof.Machine

/-! O4, O10, O11, O42: resets, losses, and the timers of the table and the queues. -/

/-! ### Resets -/

theorem State.resetAll_entries_get (s : State) (c : ResetCause) (p : TrunkPort) (n : EntryId) :
    (s.resetAll c p).entries[n] = .free := by simp [State.resetAll, State.cleared]

/-- R25: of a table whose entries are all FREE no requester owns an entry. -/
theorem State.entryCount_eq_zero {s : State} (h : ∀ n : EntryId, s.entries[n] = .free) (r : Requester) : s.entryCount r = 0 := by
  refine List.countP_eq_zero.2 (fun e he => ?_)
  obtain ⟨i, hi, rfl⟩ := Vector.mem_iff_getElem.1 (Vector.mem_toList_iff.1 he)
  have hfree : s.entries[i] = .free := h ⟨i, hi⟩
  simp [hfree, Entry.ownedBy]

/-- R163: an MW of PART with the action RESET comes to the managed reset. -/
theorem exec_partReset_of_writes {m : ObjectWrite} {s u : State} (hw : s.Writes (objectWithField m 0 0 4 1) .part 2 u)
    (hi : m.index = 0) : exec (.partReset m) s = .next (u.answerOk (objectWithField m 0 0 4 1)).managedReset := by
  have hfind : Object.find ObjectClass.part.code (objectWithField m 0 0 4 1).index = some .part := by
    have hindex : (objectWithField m 0 0 4 1).index = 0 := hi
    simp only [Object.find, ObjectClass.ofCode_code, hindex, if_true]
  have hlength : 0 < m.words.length := by
    have hwords : (withField m.words 0 0 4 1).length = 2 := hw.2.2.1
    rw [length_withField] at hwords
    omega
  have haction : actionOf (objectWithField m 0 0 4 1).words = 1 := bits_wordAt_withField m.words 0 0 1 hlength (by decide)
  have hexec : exec (.partReset m) s = .next (s.takeWrite (objectRequest (objectWithField m 0 0 4 1) .part)) := rfl
  rw [hexec, State.takeWrite_of_writes hw rfl hfind rfl]
  simp only [State.badValue, State.objectBusy, haction, ne_eq, not_true_eq_false, decide_false, Bool.or_self, Bool.false_eq_true,
    if_false]
  rfl

/-- Settles O4: each of the three resets clears the table. -/
theorem tableIsEmptyAfterReset : Obligations.TableIsEmptyAfterReset := by
  intro c s t hc ht
  have hfree : ∀ n : EntryId, t.entries[n] = .free := by
    rcases hc with rfl | rfl | ⟨m, u, rfl, hw, hi⟩
    · cases ht
      exact State.resetAll_entries_get _ _ _
    · cases ht
      exact State.resetAll_entries_get _ _ _
    · rw [exec_partReset_of_writes hw hi] at ht
      cases ht
      exact State.resetAll_entries_get _ _ _
  refine ⟨fun n => ⟨hfree n, by rw [hfree n]; rfl⟩, State.entryCount_eq_zero hfree, fun r k => ?_⟩
  exact State.findEntry_eq_none.2 (fun n => by rw [hfree n]; rfl)

/-! ### Losses -/

/-- R47: what the loss of branch b makes of an entry, by the entry's state. -/
theorem Entry.afterBranchLoss_other {b : BranchId} {l : LiveEntry} (h : l.req.branch ≠ b) (f : Option (BitVec 16)) (limit : BitVec 16) :
    (Entry.live l).afterBranchLoss b f limit = .live l := if_neg h

theorem Entry.afterBranchLoss_of_branch {b : BranchId} {l : LiveEntry} (h : l.req.branch = b) (f : Option (BitVec 16)) (limit : BitVec 16) :
    (Entry.live l).afterBranchLoss b f limit = l.afterBranchLoss f limit := if_pos h

/-- R72: the posted items of a queue are handed over in queue order, whatever else stands between them. -/
theorem State.foldl_reportLost {b : BranchId} {f : State → Item → State} (hposted : ∀ t p, f t (.posted p) = t.reportDrop b p .branchLost)
    (href : ∀ t n, f t (.ref n) = t) (q : List Item) (s : State) : q.foldl f s = s.reportLost b q := by
  induction q generalizing s with
  | nil => rfl
  | cons it rest ih =>
    rw [List.foldl_cons, ih]
    cases it with
    | posted p => rw [hposted]; rfl
    | ref n => rw [href]; rfl

/-- Settles O10: the entries, the branch and the queue of a branch loss, one after the other. -/
theorem branchLossEmptiesBranch : Obligations.BranchLossEmptiesBranch := by
  intro s b
  refine ⟨(s.mapEntries (Entry.afterBranchLoss b (s.youngestFrom b) s.collectionLimit)).modBranch b Branch.afterLoss, ?state,
    fun n => ?entries, ?reports⟩
  case state => rfl
  case entries =>
    rw [State.modBranch_entries, State.mapEntries_get]
    cases s.entries[n] with
    | free => rfl
    | live l =>
      by_cases hb : l.req.branch = b
      · subst hb
        rw [Entry.afterBranchLoss_of_branch rfl]
        simp only [if_true]
        cases hl : l.state <;> simp only [LiveEntry.afterBranchLoss, hl] <;> rfl
      · rw [Entry.afterBranchLoss_other hb]
        simp only [hb, if_false]
  case reports =>
    rw [State.foldl_reportLost (b := b) (fun _ _ => rfl) (fun _ _ => rfl)]
    rfl

/-- Settles O11: each loss is the loss of the blocks it reaches, with the link fields of the lost port. -/
theorem linkLossReachesBlocks : Obligations.LinkLossReachesBlocks := by
  refine ⟨fun s => ?trunk, fun s b => ?branch, fun s p => ?signal⟩
  case trunk =>
    refine ⟨(({ s with trunk := { link := s.trunk.link.lose, answers := [], delivered := [], lost := true } } : State).mapEntries
      Entry.afterTrunkLoss).mapBranches Branch.afterTrunkLoss, rfl, fun n => ?_, fun b => ?_, rfl⟩
    · rw [State.mapBranches_entries, State.mapEntries_get]
      cases s.entries[n] with
      | free => rfl
      | live l => cases hl : l.state <;> simp only [Entry.afterTrunkLoss, hl]
    · rw [State.mapBranches_get]
      rfl
  case branch =>
    simp only [State.linkLost, Branch.carries_iff]
    rfl
  case signal =>
    simp only [exec, execSignalAbsent, State.signalLost]
    rfl

/-! ### Intervals and timers -/

theorem State.quiet_modBranch_eq {s : State} {b : BranchId} {f : Branch → Branch} {br : Branch} (h : f s.branches[b] = br) :
    s.quiet.modBranch b f = { s with sent := [], branches := s.branches.set b br } := by
  subst h
  rfl

/-- A branch that is left as it is. -/
theorem State.quiet_modBranch_self {s : State} {b : BranchId} {f : Branch → Branch} (h : f s.branches[b] = s.branches[b]) :
    s.quiet.modBranch b f = { s with sent := [] } := by
  rw [State.quiet_modBranch_eq h]
  simp

/-- Settles O42: each timer has its effect while it runs, and none while it does not. -/
theorem intervalsAndCollectionTimersRunOut : Obligations.IntervalsAndCollectionTimersRunOut := by
  refine ⟨fun s b => ⟨fun x hx => ?passes, fun hx => ?empty, fun p rest i hq hp => ?ends, fun hno => ?idle⟩,
    fun s n => ⟨fun l c hn hc => ?expires, fun hno => ?stopped⟩⟩
  case passes =>
    refine congrArg Host.Outcome.next (State.quiet_modBranch_eq ?_)
    rw [Branch.passInterval, hx, Option.map_some]
  case empty =>
    refine congrArg Host.Outcome.next (State.quiet_modBranch_self ?_)
    rw [Branch.passInterval, hx, Option.map_none, ← hx]
  case ends =>
    refine congrArg Host.Outcome.next (State.quiet_modBranch_eq ?_)
    simp only [Branch.endBackoff, hq, hp]
  case idle =>
    refine congrArg Host.Outcome.next (State.quiet_modBranch_self ?_)
    unfold Branch.endBackoff
    split
    · rename_i p rest hq
      split
      · rename_i i hp
        exact absurd hp (hno p rest i hq)
      · rfl
    · rfl
  case expires =>
    have hn' : s.quiet.entries[n] = .live l := hn
    simp only [exec, execCollectionTimerExpiry, State.expireCollection, hn', hc]
    rfl
  case stopped =>
    simp only [exec, execCollectionTimerExpiry, State.expireCollection]
    split
    · rename_i l hn
      split
      · rename_i c hc
        exact absurd hc (hno l c hn)
      · rfl
    · rfl

end Sys2Proof.Machine

namespace Sys2Proof.Machine

/-! O36, O37, O13: the engine's choice, the end of the issue of an entry, and an ABN, each by what it finds. -/

/-! ### The engine's choice -/

theorem State.modBranch_modBranch (s : State) (b : BranchId) (f g : Branch → Branch) :
    (s.modBranch b f).modBranch b g = s.modBranch b (fun br => g (f br)) := by
  simp [State.modBranch]

/-- R78, R85: a branch that is ACTIVE or HELD, with nothing outstanding, issues its PENDING probe first. -/
theorem Branch.choice_of_probe {br : Branch} {op : ProbeOperation} {a : Address} (hout : br.outstanding = none)
    (hup : br.link.up = true) (hreset : br.reset = false) (hprobe : br.probe = .pending op a) : br.choice = some (.probe op a) := by
  have hstate : br.state = .active ∨ br.state = .held := by
    rw [Branch.state_eq_active, Branch.state_eq_held]
    cases br.hold <;> simp [hup, hreset]
  rcases hstate with hstate | hstate <;> simp [Branch.choice, hout, hprobe, hstate]

/-- R85: without a PENDING probe an ACTIVE branch issues from the slot, or else from the head of the queue. -/
theorem Branch.choice_of_active {br : Branch} (hout : br.outstanding = none) (hup : br.link.up = true) (hreset : br.reset = false)
    (hprobe : ∀ op a, br.probe ≠ .pending op a) (hhold : br.hold = false) : br.choice = (br.slotSource <|> br.headSource) := by
  have hstate : br.state = .active := Branch.state_eq_active.2 ⟨hreset, hup, hhold⟩
  cases hp : br.probe with
  | pending op a => exact absurd hp (hprobe op a)
  | idle | issued | done => simp [Branch.choice, hout, hp, hstate]

/-- R85: a branch that is neither ACTIVE nor HELD, or that has a request outstanding, issues nothing. -/
theorem Branch.choice_of_not_ready {br : Branch} (h : ¬ (br.outstanding = none ∧ br.link.up = true ∧ br.reset = false)) :
    br.choice = none := by
  by_contra hne
  obtain ⟨src, hsrc⟩ := Option.ne_none_iff_exists'.1 hne
  obtain ⟨hout, hup, -⟩ := Branch.choice_eq_some hsrc
  have hreset : br.reset = true := Bool.of_not_eq_false (fun hr => h ⟨hout, hup, hr⟩)
  simp [Branch.choice, hout, Branch.state, hreset] at hne

/-- R83, R85: without a PENDING probe a HELD branch issues nothing. -/
theorem Branch.choice_of_held {br : Branch} (hprobe : ∀ op a, br.probe ≠ .pending op a) (hhold : br.hold = true) :
    br.choice = none := by
  have hstate : br.state ≠ .active := fun h => by
    have := (Branch.state_eq_active.1 h).2.2
    simp [hhold] at this
  unfold Branch.choice
  split
  · rfl
  · split
    · rename_i hp _
      exact absurd hp (hprobe _ _)
    · rename_i hp _
      exact absurd hp (hprobe _ _)
    · rename_i h _
      exact absurd h hstate
    · rfl

theorem Branch.slotSource_eq_none {br : Branch} (h : ∀ x, br.slot = some x → x.passed = false) : br.slotSource = none := by
  unfold Branch.slotSource
  split
  · rename_i x hx
    rw [h x hx]
    rfl
  · rfl

theorem Branch.slotSource_of_passed {br : Branch} {x : RetrySlot} (hx : br.slot = some x) (hp : x.passed = true) :
    br.slotSource = some (.slot x.entry) := by
  simp only [Branch.slotSource, hx, hp, if_true]

theorem exec_engineChoice {s : State} {b : BranchId} {src : Source} (h : s.branches[b].choice = some src) :
    exec (.engineChoice b) s = .next (s.quiet.issueSource b src) := by
  have h' : s.quiet.branches[b].choice = some src := h
  simp only [exec, execEngineChoice, State.choose, h']

theorem exec_engineChoice_none {s : State} {b : BranchId} (h : s.branches[b].choice = none) :
    exec (.engineChoice b) s = .next s.quiet := by
  have h' : s.quiet.branches[b].choice = none := h
  simp only [exec, execEngineChoice, State.choose, h']

/-- R59: what becomes of a branch whose queue is replaced. -/
theorem State.setQueue_get (s : State) (b : BranchId) (q : List Item) :
    (s.setQueue b q).branches[b]
      = { s.branches[b] with queue := q, level := decide (s.branches[b].watermark.toNat ≤ q.length) } := by
  have hsync : ∀ u : State, (u.syncLevel b).branches[b] = { u.branches[b] with level := u.branches[b].atWatermark } := fun u => by
    simp only [State.syncLevel]
    split
    · simp only [State.raise_frame, State.modBranch_get, if_true]
    · simp only [State.modBranch_get, if_true]
  rw [State.setQueue, hsync, State.modBranch_get, if_pos rfl]
  rfl

theorem State.setQueue_timeout (s : State) (b : BranchId) (q : List Item) :
    (s.setQueue b q).branches[b].timeout = s.branches[b].timeout := by rw [State.setQueue_get]

/-- R28: the issue of a live entry. -/
theorem State.issueEntry_eq {s : State} {b : BranchId} {n : EntryId} {l : LiveEntry} (hn : s.entries[n] = .live l) :
    s.issueEntry b n
      = ({ s with
            entries := s.entries.set n (.live l.issued)
            branches := s.branches.set b
              { s.branches[b] with
                outstanding := some (.entry n), responseTimer := some s.branches[b].timeout } } : State).handToPort b
          (.request l.req.issueWords) := by
  simp only [State.issueEntry, hn]
  rfl

/-- Settles O36: the conditions of each clause fix the engine's choice, and the choice is issued. -/
theorem engineIssuesFirstEligibleSource : Obligations.EngineIssuesFirstEligibleSource := by
  intro s b br s0 ready noProbe noSlot
  refine ⟨fun op a hready hprobe => ?probe, fun x l hready hprobe hhold hx hpassed hn => ?slot,
    fun p rest hready hprobe hhold hslot hq hp => ?posted, fun n rest l hready hprobe hhold hslot hq hn => ?ref, fun h => ?nothing⟩
  case probe =>
    obtain ⟨hout, hup, hreset⟩ := hready
    rw [exec_engineChoice (Branch.choice_of_probe hout hup hreset hprobe), State.issueSource, State.issue, State.modBranch_modBranch]
    rfl
  case slot =>
    obtain ⟨hout, hup, hreset⟩ := hready
    have hchoice : br.choice = some (.slot x.entry) := by
      rw [Branch.choice_of_active hout hup hreset hprobe hhold, Branch.slotSource_of_passed hx hpassed]
      rfl
    have hn' : (s.quiet.modBranch b (fun br => { br with slot := none })).entries[x.entry] = .live l := hn
    rw [exec_engineChoice hchoice, State.issueSource, State.issueEntry_eq hn', State.modBranch_get, if_pos rfl]
    simp only [State.modBranch, Vector.set_set]
    rfl
  case posted =>
    obtain ⟨hout, hup, hreset⟩ := hready
    have hchoice : br.choice = some (.headPosted p) := by
      rw [Branch.choice_of_active hout hup hreset hprobe hhold, Branch.slotSource_eq_none hslot]
      simp [Branch.headSource, hq, hp]
    rw [exec_engineChoice hchoice, State.issueSource, State.issue, State.modBranch_modBranch]
    refine congrArg (fun t : State => Host.Outcome.next (t.handToPort b (.request p.issueWords))) (State.quiet_modBranch_eq ?_)
    rw [hq]
    rfl
  case ref =>
    intro v
    obtain ⟨hout, hup, hreset⟩ := hready
    have hchoice : br.choice = some (.headRef n) := by
      rw [Branch.choice_of_active hout hup hreset hprobe hhold, Branch.slotSource_eq_none (by simp [hslot])]
      simp [Branch.headSource, hq, hslot]
    have hq' : s.quiet.branches[b].queue = .ref n :: rest := hq
    have hn' : (s.quiet.setQueue b rest).entries[n] = .live l := by
      simp only [State.setQueue_frame]
      exact hn
    have hentries : (s.quiet.setQueue b rest).entries = s.entries := by simp only [State.setQueue_frame, State.quiet_entries]
    rw [exec_engineChoice hchoice]
    simp only [State.issueSource, hq', List.tail_cons]
    rw [State.issueEntry_eq hn', hentries, State.setQueue_timeout]
    rfl
  case nothing =>
    refine exec_engineChoice_none ?_
    rcases h with hready | ⟨hprobe, hhold | ⟨hslot, hhead⟩⟩
    · exact Branch.choice_of_not_ready hready
    · exact Branch.choice_of_held hprobe hhold
    · by_cases hready : ready
      · obtain ⟨hout, hup, hreset⟩ := hready
        cases hhold : br.hold with
        | true => exact Branch.choice_of_held hprobe hhold
        | false =>
          rw [Branch.choice_of_active hout hup hreset hprobe hhold, Branch.slotSource_eq_none hslot]
          rcases hhead with hq | ⟨p, rest, hq, hp⟩ | ⟨hsome, n, rest, hq⟩
          · simp [Branch.headSource, hq]
          · simp [Branch.headSource, hq, hp]
          · simp [Branch.headSource, hq, Option.isSome_iff_ne_none.1 hsome]
      · exact Branch.choice_of_not_ready hready

/-! ### The end of the issue of an entry -/

theorem Notice.fromBranch_iff {b : BranchId} {n : Notice} : n.fromBranch b = true ↔ ∃ code, n.source = .target b code := by
  cases h : n.source with
  | alert c => simp [Notice.fromBranch, h]
  | target b' code => simp [Notice.fromBranch, h]

theorem Notice.fromBranch_eq_false {b : BranchId} {n : Notice} (h : ∀ code, n.source ≠ .target b code) : n.fromBranch b = false :=
  Bool.of_not_eq_true (fun hf => (Notice.fromBranch_iff.1 hf).elim h)

/-- R109: a queue without a target notice of the branch has no youngest one. -/
theorem State.youngestFrom_eq_none {s : State} {b : BranchId} (h : ∀ n ∈ s.notices, ∀ code, n.source ≠ .target b code) :
    s.youngestFrom b = none := by
  rw [State.youngestFrom, Option.map_eq_none_iff, List.find?_eq_none]
  intro n hn
  simp [Notice.fromBranch_eq_false (h n (List.mem_reverse.1 hn))]

/-- R109: the youngest target notice of the branch is the last one in the queue. -/
theorem State.youngestFrom_eq_some {s : State} {b : BranchId} {before after : List Notice} {n : Notice} {code : BitVec 8}
    (hq : s.notices = before ++ n :: after) (hn : n.source = .target b code)
    (hafter : ∀ x ∈ after, ∀ code', x.source ≠ .target b code') : s.youngestFrom b = some n.seq := by
  have hnone : after.reverse.find? (Notice.fromBranch b) = none := by
    rw [List.find?_eq_none]
    intro x hx
    simp [Notice.fromBranch_eq_false (hafter x (List.mem_reverse.1 hx))]
  have hfrom : n.fromBranch b = true := Notice.fromBranch_iff.2 ⟨code, hn⟩
  simp [State.youngestFrom, hq, List.find?_append, hnone, hfrom]

/-- R91: the words of a DONE to an entry. -/
theorem State.doneWords_entry {u : State} {b : BranchId} {n : EntryId} {l : LiveEntry} (hn : u.entries[n] = .live l) :
    u.doneWords b (.entry n) = if l.req.kind = .wrn then 0 else l.req.length.toNat := by
  simp only [State.doneWords, hn]
  cases l.req.kind <;> rfl

theorem resultData_eq (k : NpKind) (ws : List Word) : resultData k ws = if k = .wrn then [] else ws := by cases k <;> rfl

/-- R31: the entry that waits takes the slot with the retry interval of its branch. -/
theorem State.park_eq {s : State} {b : BranchId} {n : EntryId} {l : LiveEntry} {i : BitVec 8} (h : s.branches[b].interval = i) :
    s.park b n l
      = { s with
          entries := s.entries.set n (.live { l with state := .waiting })
          branches := s.branches.set b { s.branches[b] with slot := some { entry := n, interval := i, passed := false } } } := by
  subst h
  rfl

/-- Settles O37: the ending and the state of the entry decide what becomes of it, and the drain is looked at last. -/
theorem entryIssueEndsByAnswerOrTimeout : Obligations.EntryIssueEndsByAnswerOrTimeout := by
  refine ⟨fun s b h => State.youngestFrom_eq_none h, fun s b before after n code hq hn hafter => State.youngestFrom_eq_some hq hn hafter,
    fun b n l c e s u hends hout hn => ?_⟩
  intro v ends
  have hn' : (u.clearOutstanding b).entries[n] = .live l := hn
  have hbudget : (u.clearOutstanding b).branches[b].budget = u.branches[b].budget := by rw [State.clearOutstanding_get]
  have hinterval : (u.clearOutstanding b).branches[b].interval = u.branches[b].interval := by rw [State.clearOutstanding_get]
  rw [exec_of_endsIssue hends hout (State.doneWords_entry hn)]
  refine ⟨fun hl => ?disowned, fun hl => ?issued⟩
  case disowned =>
    simp only [State.endIssue, State.endEntry, hn', hl]
    rfl
  case issued =>
    simp only [State.endIssue, State.endEntry, hn', hl]
    cases e with
    | done ws =>
      simp only [State.endIssued, resultData_eq]
      rfl
    | refuse => rfl
    | timeout => rfl
    | later =>
      simp only [State.endIssued, hbudget]
      split
      · exact congrArg (fun t : State => Host.Outcome.next t.drainEnd) (State.park_eq hinterval)
      · rfl

end Sys2Proof.Machine

namespace Sys2Proof.Machine

/-! O13: what an ABN does in each state of its entry. -/

/-! ### The entry count -/

/-- R26: a change of one entry moves a requester's entry count by what the requester owned there before and owns there after. -/
theorem State.entryCount_of_set {u v : State} {n : EntryId} {e : Entry} (h : v.entries = u.entries.set n e) (r : Requester) :
    v.entryCount r + (u.entries[n].ownedBy r).toNat = u.entryCount r + (e.ownedBy r).toNat := by
  have hlength : n.val < u.entries.toList.length := by simp
  have hget : u.entries.toList[n.val] = u.entries[n] := Vector.getElem_toList hlength
  have hset : v.entryCount r
      = u.entryCount r - (if u.entries[n].ownedBy r = true then 1 else 0) + (if e.ownedBy r = true then 1 else 0) := by
    rw [State.entryCount, h, Vector.toList_set, List.countP_set hlength, hget, State.entryCount]
  have hpos : u.entries[n].ownedBy r = true → 0 < u.entryCount r := fun ho =>
    List.countP_pos_iff.2 ⟨u.entries[n], Vector.mem_toList_iff.2 (Vector.getElem_mem _), ho⟩
  rw [hset]
  cases hold : u.entries[n].ownedBy r with
  | false => cases e.ownedBy r <;> rfl
  | true =>
    have := hpos hold
    cases e.ownedBy r <;> simp only [if_true, Bool.toNat_true, Bool.toNat_false, Bool.false_eq_true, if_false] <;> omega

/-! ### An ABN -/

theorem exec_abandon {r : Requester} {t : Tag} {s u : State} (h : s.Offers (.abandon r t 0) u) :
    exec (.abandon r t 0) s = .next (u.decodeAbandon r t 0) :=
  congrArg Host.Outcome.next (State.takeRequest_of_offers _ h)

theorem State.decodeAbandon_of_absent {u : State} {r : Requester} {t : Tag} (h : ∀ n : EntryId, u.entries[n].holds r t = false) :
    u.decodeAbandon r t 0 = u.answer r t (.completion .noEntry []) := by
  simp only [State.decodeAbandon, ne_eq, not_true_eq_false, if_false, State.findEntry_eq_none.2 h]

section
variable {u : State} {r : Requester} {t : Tag} {n : EntryId} {l : LiveEntry}

theorem State.decodeAbandon_of_disowned (hf : u.findEntry r t = some n) (hn : u.entries[n] = .live l) (hl : l.state = .disowned) :
    u.decodeAbandon r t 0 = u.answer r t (.completion .noEntry []) := by
  simp only [State.decodeAbandon, ne_eq, not_true_eq_false, if_false, hf, hn, hl, if_true]

theorem State.decodeAbandon_of_live (hf : u.findEntry r t = some n) (hn : u.entries[n] = .live l) (hl : l.state ≠ .disowned) :
    u.decodeAbandon r t 0 = (u.abandonEntry n l).drainEnd.answer r t (.completion .ok []) := by
  simp only [State.decodeAbandon, ne_eq, not_true_eq_false, if_false, hf, hn, hl]

/-- R42 to R45: what an ABN makes of the entry. -/
def LiveEntry.abandoned (l : LiveEntry) : Entry :=
  if l.state = .issued then .live { l with state := .disowned } else .free

theorem State.abandonEntry_entries (hl : l.state ≠ .disowned) : (u.abandonEntry n l).entries = u.entries.set n l.abandoned := by
  cases hstate : l.state with
  | queued => simp only [State.abandonEntry, LiveEntry.abandoned, hstate, State.setQueue_frame]; rfl
  | waiting => simp only [State.abandonEntry, LiveEntry.abandoned, hstate]; rfl
  | issued => simp only [State.abandonEntry, LiveEntry.abandoned, hstate]; rfl
  | complete c => simp only [State.abandonEntry, LiveEntry.abandoned, hstate]; rfl
  | disowned => exact absurd hstate hl

/-- R121: a change of an entry that keeps it in or out of the drain condition ends no drain. -/
theorem State.drainEnd_setEntry {e : Entry} (h : u.DrainLaw) (he : e.place.isSome = u.entries[n].place.isSome) :
    (u.setEntry n e).drainEnd = u.setEntry n e := by
  refine if_neg (fun hc => ?_)
  obtain ⟨hdraining, hdrained⟩ := Bool.and_eq_true_iff.1 hc
  have hcounts : u.work.Counts := State.drained_eq_false_iff.1 (h hdraining)
  have hstill : (u.setEntry n e).drained = false := by
    rw [State.drained_eq_false_iff, State.work_setEntry]
    exact hcounts.setEntry (fun hp => he.trans hp)
  exact absurd (hstill.symm.trans hdrained) Bool.false_ne_true

end

/-- Settles O13: the search finds the entry of the pair; the drain is looked at where the entry left the drain condition. -/
theorem abandonFollowsEntryState : Obligations.AbandonFollowsEntryState := by
  intro r t s u hoff hpair hdrain
  rw [exec_abandon hoff]
  refine ⟨fun habsent => congrArg Host.Outcome.next (State.decodeAbandon_of_absent habsent), fun n l hn hr ht => ?_⟩
  intro free lb
  have hfind : u.findEntry r t = some n := State.findEntry_eq_some hpair hn hr ht
  refine ⟨congrArg Host.Outcome.next ?answer, fun v hv => ?count⟩
  case answer =>
    cases hl : l.state with
    | disowned => exact State.decodeAbandon_of_disowned hfind hn hl
    | queued =>
      rw [State.decodeAbandon_of_live hfind hn (by simp [hl])]
      simp only [State.abandonEntry, hl]
      rfl
    | waiting =>
      rw [State.decodeAbandon_of_live hfind hn (by simp [hl])]
      simp only [State.abandonEntry, hl]
      rfl
    | issued =>
      rw [State.decodeAbandon_of_live hfind hn (by simp [hl])]
      simp only [State.abandonEntry, hl]
      rw [State.drainEnd_setEntry hdrain (by simp [hn, Entry.place, hl])]
      rfl
    | complete c =>
      rw [State.decodeAbandon_of_live hfind hn (by simp [hl])]
      simp only [State.abandonEntry, hl]
      rw [State.drainEnd_setEntry hdrain (by simp [hn, Entry.place, hl])]
      rfl
  case count =>
    cases hv
    have howned : u.entries[n].ownedBy r = true := by simp [hn, Entry.ownedBy, hr]
    by_cases hl : l.state = .disowned
    · rw [State.decodeAbandon_of_disowned hfind hn hl, if_pos (.inr hl)]
      simp only [State.entryCount, State.answer_frame, Nat.add_zero]
    · rw [State.decodeAbandon_of_live hfind hn hl]
      have hcount := State.entryCount_of_set (u := u) (v := (u.abandonEntry n l).drainEnd.answer r t (.completion .ok [])) (n := n)
        (e := l.abandoned) (by simp only [State.answer_frame, State.drainEnd_frame, State.abandonEntry_entries hl]) r
      rw [howned] at hcount
      by_cases hissued : l.state = .issued
      · have hkept : l.abandoned.ownedBy r = true := by simp [LiveEntry.abandoned, hissued, Entry.ownedBy, hr]
        rw [hkept] at hcount
        simpa [hissued] using hcount
      · have hgone : l.abandoned.ownedBy r = false := by simp [LiveEntry.abandoned, hissued, Entry.ownedBy]
        rw [hgone] at hcount
        simpa [hissued, hl] using hcount

end Sys2Proof.Machine

namespace Sys2Proof.Machine

/-! O23: the records of FAULT, PROBE, ENTRY and ALERT, word by word. -/

/-! ### Reading fields that may be absent -/

theorem toNat_bits_placeNat {v n lo : Nat} (h : lo + n ≤ 32) (hv : v < 2 ^ n) : (bits (placeNat v n lo) lo n).toNat = v := by
  rw [bits_placeNat _ _ _ h, BitVec.toNat_ofNat, Nat.mod_eq_of_lt hv]

/-- A field of n bits placed from bit lo upward; all 0 when it is absent. -/
def placeOption {α : Type} {n : Nat} (x : Option α) (v : α → BitVec n) (lo : Nat) : Word :=
  match x with
  | some a => place (v a) lo
  | none => 0

section
variable {α : Type} {n lo : Nat}

theorem bits_placeOption (x : Option α) (v : α → BitVec n) (h : lo + n ≤ 32) :
    bits (placeOption x v lo) lo n = (x.map v).getD 0 := by
  cases x with
  | none => exact bits_zero _ _
  | some a => exact bits_place _ _ h

theorem bits_placeOption_of_disjoint (x : Option α) (v : α → BitVec n) (lo' n' : Nat) (h : lo' + n' ≤ lo ∨ lo + n ≤ lo') :
    bits (placeOption x v lo) lo' n' = 0 := by
  cases x with
  | none => exact bits_zero _ _
  | some a => exact bits_place_of_disjoint _ _ _ _ h

theorem bit_placeOption_of_disjoint (x : Option α) (v : α → BitVec n) (i : Nat) (h : i < lo ∨ lo + n ≤ i) :
    bit (placeOption x v lo) i = false := by
  cases x with
  | none => exact bit_zero _
  | some a => exact bit_place_of_disjoint _ _ _ h

end

theorem addressHigh_eq_place (a : Address) : addressHigh a = place (a.extractLsb' 32 8) 0 := setWidth_eq_place _

theorem addressOf_high_low (a : Address) : addressOf (addressHigh a) (addressLow a) = a :=
  (congrArg (fun w => addressOf w (addressLow a)) (BitVec.zero_or).symm).trans (addressOf_words a 0 (bits_zero _ _))

/-- A number of 16 bits in a word of its own. -/
theorem toNat_placeNat_zero {v : Nat} (h : v < 65536) : (placeNat v 16 0).toNat = v := by
  simp [placeNat, place]
  omega

/-! ### The record of FAULT -/

/-- R176: word 0 of the record of a fault entry. -/
def faultCausesWord (log : FaultLog) (f : FaultEntry) : Word :=
  placeFlag true 31 ||| placeNat f.causes.group 3 28 ||| placeNat f.causes.reason 3 24 ||| place f.causes.bits 16
    ||| placeNat log.drops 8 8 ||| placeFlag f.address.isSome 0 ||| placeFlag f.object.isSome 1 ||| placeFlag f.branch.isSome 2
    ||| placeFlag f.window.isSome 3 ||| placeFlag f.causes.held.isSome 4

/-- R176: word 1 of the record of a fault entry. -/
def faultRequestWord (f : FaultEntry) : Word :=
  place f.kind 24 ||| place (requesterBits f.requester) 16 ||| place (tagBits f.tag) 12
    ||| placeOption f.causes.held (fun st => BitVec.ofNat 4 st.cpl.code) 8
    ||| placeOption f.branch (fun b => (BitVec.ofFin b : BitVec 2)) 6
    ||| placeOption f.window (fun i => (BitVec.ofFin i : BitVec 5)) 0

/-- R176: word 2 of the record of a fault entry; the object and the address share its low half. -/
def faultPlaceWord (f : FaultEntry) : Word :=
  place f.generation 16 ||| (placeOption f.object Prod.fst 8 ||| placeOption f.object Prod.snd 0)
    ||| placeOption f.address (fun a => a.extractLsb' 32 8) 0

/-- R176: word 3 of the record of a fault entry. -/
def faultAddressWord (f : FaultEntry) : Word := placeOption f.address addressLow 0

theorem placeOption_zero {α : Type} (x : Option α) (v : α → Word) : placeOption x v 0 = (x.map v).getD 0 := by
  cases x with
  | none => rfl
  | some a => simp [placeOption, place]

theorem faultRecord_of_cons {log : FaultLog} {f : FaultEntry} {rest : List FaultEntry} (h : log.entries = f :: rest) :
    faultRecord log = [faultCausesWord log f, faultRequestWord f, faultPlaceWord f, faultAddressWord f] := by
  simp only [faultRecord, h]
  refine congrArg₂ List.cons rfl (congrArg₂ List.cons ?request (congrArg₂ List.cons ?place (congrArg₂ List.cons ?address rfl)))
  case request =>
    refine congrArg₂ (· ||| ·) (congrArg₂ (· ||| ·) (congrArg₂ (· ||| ·) rfl ?held) ?branch) ?window
    case held => cases f.causes.held <;> rfl
    case branch => cases f.branch <;> simp [placeOption, placeNat]
    case window => cases f.window <;> simp [placeOption, placeNat]
  case place =>
    refine congrArg₂ (· ||| ·) (congrArg₂ (· ||| ·) rfl ?object) ?high
    case object =>
      cases f.object with
      | none => rfl
      | some x => simp only [placeOption, setWidth_eq_place]
    case high =>
      cases f.address with
      | none => rfl
      | some a => exact addressHigh_eq_place a
  case address =>
    rw [faultAddressWord, placeOption_zero]
    cases f.address <;> rfl

theorem FaultCauses.group_lt (c : FaultCauses) : c.group < 8 := by cases c <;> simp [FaultCauses.group]

theorem FaultCauses.reason_lt (c : FaultCauses) : c.reason < 8 := by
  cases c with
  | undelivered r => cases r <;> decide
  | _ => exact Nat.zero_lt_succ _

theorem ResultStatus.code_lt (st : ResultStatus) : st.cpl.code < 16 := by cases st <;> decide

theorem faultCausesWord_fields {log : FaultLog} (f : FaultEntry) (hdrops : log.drops ≤ 255) :
    let w := faultCausesWord log f
    bit w 31 = true ∧ (bits w 28 3).toNat = f.causes.group ∧ (bits w 24 3).toNat = f.causes.reason ∧ bits w 16 5 = f.causes.bits
      ∧ (bits w 8 8).toNat = log.drops ∧ bit w 0 = f.address.isSome ∧ bit w 1 = f.object.isSome ∧ bit w 2 = f.branch.isSome
      ∧ bit w 3 = f.window.isSome ∧ bit w 4 = f.causes.held.isSome := by
  have hd : log.drops < 256 := by omega
  simp [faultCausesWord, bits_or, bit_or, bit_placeFlag, bit_placeFlag_of_ne, bits_placeFlag_of_disjoint, bits_placeNat_of_disjoint,
    bit_placeNat_of_disjoint, bits_place, bits_place_of_disjoint, bit_place_of_disjoint, toNat_bits_placeNat, f.causes.group_lt,
    f.causes.reason_lt, hd]

theorem faultRequestWord_fields (f : FaultEntry) :
    let w := faultRequestWord f
    bits w 24 8 = f.kind ∧ (bits w 16 5).toNat = f.requester.val ∧ (bits w 12 4).toNat = f.tag.val
      ∧ bits w 8 4 = (f.causes.held.map (fun st => BitVec.ofNat 4 st.cpl.code)).getD 0
      ∧ bits w 6 2 = (f.branch.map (fun b => (BitVec.ofFin b : BitVec 2))).getD 0
      ∧ bits w 0 5 = (f.window.map (fun i => (BitVec.ofFin i : BitVec 5))).getD 0 := by
  simp [faultRequestWord, bits_or, bits_place, bits_place_of_disjoint, bits_placeOption, bits_placeOption_of_disjoint,
    requesterBits, tagBits]

theorem faultPlaceWord_fields (f : FaultEntry) :
    let w := faultPlaceWord f
    bits w 16 16 = f.generation ∧ bits w 8 8 = (f.object.map Prod.fst).getD 0
      ∧ bits w 0 8 = (f.object.map Prod.snd).getD 0 ||| (f.address.map (fun a => a.extractLsb' 32 8)).getD 0 := by
  simp [faultPlaceWord, bits_or, bits_place, bits_place_of_disjoint, bits_placeOption, bits_placeOption_of_disjoint]

/-- R173: the address of a fault entry without an object is read back from words 2 and 3. -/
theorem addressOf_faultWords {f : FaultEntry} {a : Address} (ha : f.address = some a) (ho : f.object = none) :
    addressOf (faultPlaceWord f) (faultAddressWord f) = a := by
  have hlow : faultAddressWord f = addressLow a := by simp [faultAddressWord, placeOption_zero, ha]
  rw [hlow, faultPlaceWord, ha, ho, placeOption, placeOption, placeOption, ← addressHigh_eq_place]
  refine addressOf_words a _ ?_
  simp [bits_place_of_disjoint]

theorem faultRecord_of_nil {log : FaultLog} (h : log.entries = []) (hd : log.drops ≤ 255) :
    faultRecord log = [BitVec.ofNat 32 (log.drops * 256), 0, 0, 0] := by
  have hdrops : placeNat log.drops 8 8 = BitVec.ofNat 32 (log.drops * 256) := by
    refine BitVec.eq_of_toNat_eq ?_
    simp [placeNat, place, BitVec.toNat_shiftLeft, Nat.shiftLeft_eq]
    omega
  simp only [faultRecord, h, hdrops]

/-! ### The record of PROBE -/

/-- R93: the result of a probe that is DONE. -/
def Probe.result : Probe → Option ProbeResult
  | .done _ _ x => some x
  | _ => none

/-- R175: word 0 of the record of a probe that is not IDLE. -/
def Probe.stateWord (p : Probe) (op : ProbeOperation) : Word :=
  placeNat op.code 2 0 ||| placeNat p.code 2 8 ||| placeOption p.result (fun x => BitVec.ofNat 3 x.code) 16

/-- R93, R175: the data word of a probe's record. -/
def ProbeOperation.dataWord (op : ProbeOperation) (x : Option ProbeResult) : Word :=
  match op, x with
  | .write w, _ => w
  | .read, some (.ok (some w)) => w
  | .read, _ => 0

theorem probeRecord_of_operation {p : Probe} {op : ProbeOperation} {a : Address} (h : p.operation = some (op, a)) :
    probeRecord p = [p.stateWord op, addressHigh a, addressLow a, op.dataWord p.result] := by
  cases p with
  | idle => cases h
  | pending op' a' => cases h; cases op <;> rfl
  | issued op' a' => cases h; cases op <;> rfl
  | done op' a' x =>
    cases h
    cases op with
    | write w => rfl
    | read =>
      cases x with
      | ok w => cases w <;> rfl
      | _ => rfl

/-- R93: a READ without a read word has the data word 0. -/
theorem ProbeOperation.dataWord_read {x : Option ProbeResult} (h : ∀ w, x ≠ some (.ok (some w))) :
    ProbeOperation.read.dataWord x = 0 := by
  unfold ProbeOperation.dataWord
  split
  · contradiction
  · exact absurd rfl (h _)
  · rfl

theorem probeRecord_idle : probeRecord .idle = [0, 0, 0, 0] := rfl

theorem Probe.operation_eq_none {p : Probe} : p.operation = none ↔ p = .idle := by cases p <;> simp [Probe.operation]

theorem Probe.result_eq_some {p : Probe} {x : ProbeResult} : p.result = some x ↔ ∃ op a, p = .done op a x := by
  cases p <;> simp [Probe.result]

theorem Probe.result_eq_none {p : Probe} (h : ∀ op a x, p ≠ .done op a x) : p.result = none :=
  Option.eq_none_iff_forall_ne_some.2 (fun x hx => (Probe.result_eq_some.1 hx).elim fun op hop => hop.elim fun a hp => h op a x hp)

/-- R93: the operation and the result of a probe that is DONE are those of its record. -/
theorem Probe.eq_done {p : Probe} {op : ProbeOperation} {a : Address} {x : ProbeResult} (hop : p.operation = some (op, a))
    (hx : p.result = some x) : p = .done op a x := by
  obtain ⟨op', a', rfl⟩ := Probe.result_eq_some.1 hx
  cases hop
  rfl

theorem Probe.code_lt (p : Probe) : p.code < 4 := by cases p <;> simp [Probe.code]

theorem ProbeOperation.code_lt (op : ProbeOperation) : op.code < 4 := by cases op <;> simp [ProbeOperation.code]

theorem ProbeResult.code_lt (x : ProbeResult) : x.code < 8 := by cases x <;> simp [ProbeResult.code]

theorem Probe.stateWord_fields (p : Probe) (op : ProbeOperation) :
    let w := p.stateWord op
    (bits w 8 2).toNat = p.code ∧ (bits w 0 2).toNat = op.code
      ∧ bits w 16 3 = (p.result.map (fun x => BitVec.ofNat 3 x.code)).getD 0 := by
  simp [Probe.stateWord, bits_or, bits_placeNat_of_disjoint, bits_placeOption, bits_placeOption_of_disjoint, toNat_bits_placeNat,
    p.code_lt, op.code_lt]

/-! ### The record of ENTRY -/

/-- R54: the completion of an entry that is COMPLETE. -/
def LiveEntry.completion (l : LiveEntry) : Option Completion :=
  match l.state with
  | .complete c => some c
  | _ => none

theorem LiveEntry.completion_eq_none {l : LiveEntry} (h : ∀ c, l.state ≠ .complete c) : l.completion = none := by
  cases hl : l.state with
  | complete c => exact absurd hl (h c)
  | _ => simp only [LiveEntry.completion, hl]

theorem LiveEntry.completion_of_complete {l : LiveEntry} {c : Completion} (h : l.state = .complete c) : l.completion = some c := by
  simp only [LiveEntry.completion, h]

/-- R54: the time left that the record of a live entry shows. -/
def LiveEntry.timeLeft (l : LiveEntry) (s : State) : Nat :=
  match l.state with
  | .complete c => s.timeLeft c.timer
  | _ => 0

theorem LiveEntry.timeLeft_of_complete {l : LiveEntry} {c : Completion} (h : l.state = .complete c) (s : State) :
    l.timeLeft s = s.timeLeft c.timer := by simp only [LiveEntry.timeLeft, h]

theorem State.timeLeft_bounds (s : State) {limit : BitVec 16} (h : limit ≠ 0) :
    1 ≤ s.timeLeft limit ∧ s.timeLeft limit ≤ limit.toNat := by
  have hpos : 0 < limit.toNat := Nat.pos_of_ne_zero (fun h0 => h (BitVec.eq_of_toNat_eq h0))
  have hlt := Nat.mod_lt (Config.timeLeft s.fresh) hpos
  exact ⟨Nat.le_add_right _ _, by rw [State.timeLeft]; omega⟩

/-- R39, R54: the fence of an entry that is COMPLETE and has one. -/
def LiveEntry.fence (l : LiveEntry) : Option (BitVec 16) := l.completion.bind (·.fence)

/-- R175: word 0 of the record of a live entry. -/
def LiveEntry.requestWord (l : LiveEntry) : Word :=
  place l.req.kind.code 24 ||| place (requesterBits l.req.requester) 16 ||| place (tagBits l.req.tag) 12
    ||| placeNat (Entry.live l).code 3 0

/-- R175: word 1 of the record of a live entry. -/
def LiveEntry.statusWord (l : LiveEntry) : Word :=
  placeOption l.completion (fun c => BitVec.ofNat 4 c.status.cpl.code) 24 ||| placeFlag l.fence.isSome 16
    ||| placeNat l.req.branch 2 8 ||| place l.req.length 0

theorem entryRecord_live (l : LiveEntry) (time : Nat) :
    entryRecord (.live l) time
      = [l.requestWord, l.statusWord, addressHigh l.req.address, addressLow l.req.address, l.req.generation.setWidth 32,
          placeNat l.attempts 16 0, (l.fence.getD 0).setWidth 32, placeOption l.completion (fun _ => BitVec.ofNat 16 time) 0] := by
  cases hl : l.state with
  | complete c =>
    cases hf : c.fence <;>
      simp [entryRecord, LiveEntry.requestWord, LiveEntry.statusWord, LiveEntry.fence, LiveEntry.completion, hl, hf, placeOption, placeNat]
  | _ =>
    simp [entryRecord, LiveEntry.requestWord, LiveEntry.statusWord, LiveEntry.fence, LiveEntry.completion, hl, placeOption]

theorem LiveEntry.code_lt (l : LiveEntry) : (Entry.live l).code < 8 := by cases hl : l.state <;> simp [Entry.code, hl]

theorem LiveEntry.requestWord_fields (l : LiveEntry) :
    let w := l.requestWord
    bits w 24 8 = l.req.kind.code ∧ (bits w 16 5).toNat = l.req.requester.val ∧ (bits w 12 4).toNat = l.req.tag.val
      ∧ (bits w 0 3).toNat = (Entry.live l).code := by
  simp [LiveEntry.requestWord, bits_or, bits_place, bits_place_of_disjoint, bits_placeNat_of_disjoint, toNat_bits_placeNat,
    requesterBits, tagBits, l.code_lt]

theorem LiveEntry.statusWord_fields (l : LiveEntry) :
    let w := l.statusWord
    (bits w 8 2).toNat = l.req.branch.val ∧ bits w 0 6 = l.req.length
      ∧ bits w 24 4 = (l.completion.map (fun c => BitVec.ofNat 4 c.status.cpl.code)).getD 0 ∧ bit w 16 = l.fence.isSome := by
  simp [LiveEntry.statusWord, bits_or, bit_or, bits_place, bits_place_of_disjoint, bits_placeNat_of_disjoint, bits_placeFlag_of_disjoint,
    bits_placeOption, bits_placeOption_of_disjoint, toNat_bits_placeNat, bit_placeFlag, bit_place_of_disjoint, bit_placeNat_of_disjoint,
    bit_placeOption_of_disjoint]

/-! ### The record of ALERT -/

theorem Marker.code_lt (m : Marker) : m.code < 4 := by cases m <;> decide

theorem alertEnabledWord_fields (a : Alerts) (dest : Requester) :
    let w := wordAt (alertRecord a dest) 0
    (bits w 8 5).toNat = dest.val ∧ bits w 16 6 = 0 ∧ ∀ c : AlertKind, bit w (c.number - 1) = (a.get c).enabled := by
  refine ⟨?_, ?_, fun c => ?_⟩
  · simp [alertRecord, wordAt_zero, AlertKind.all, AlertKind.number, bits_or, bits_place, bits_placeFlag_of_disjoint, requesterBits]
  · simp [alertRecord, wordAt_zero, AlertKind.all, AlertKind.number, bits_or, bits_place_of_disjoint, bits_placeFlag_of_disjoint]
  · cases c <;>
      simp [alertRecord, wordAt_zero, AlertKind.all, AlertKind.number, bit_or, bit_place_of_disjoint, bit_placeFlag, bit_placeFlag_of_ne]

theorem alertRaisedWord_fields (a : Alerts) (dest : Requester) (c : AlertKind) :
    let w := wordAt (alertRecord a dest) 1
    bit w (c.number - 1) = (a.get c).raised.isSome ∧ (bits w (16 + 2 * (c.number - 1)) 2).toNat = (a.get c).marker.code := by
  cases c <;>
    simp [alertRecord, wordAt_succ, wordAt_zero, AlertKind.all, AlertKind.number, bit_or, bits_or, bit_placeFlag, bit_placeFlag_of_ne,
      bit_placeNat_of_disjoint, bits_placeNat_of_disjoint, bits_placeFlag_of_disjoint, toNat_bits_placeNat, Marker.code_lt]

/-- Settles O23: each record word by word. -/
theorem faultProbeEntryAlertRecordsShowTheirFields : Obligations.FaultProbeEntryAlertRecordsShowTheirFields := by
  refine ⟨?fault, fun s q h hlog => faultRecord_of_nil h (hlog q).2, ?probe, ?free, ?entry, ?sets, ?group6, ?reason, ?held,
    fun _ => rfl, rfl, rfl, fun _ => rfl, fun _ _ _ => rfl, fun _ => rfl, fun _ => rfl, rfl, rfl, ?alert⟩
  case fault =>
    intro s q f rest h hlog r
    have hr : r = _ := faultRecord_of_cons h
    obtain ⟨hheld, hgroup, hreason, hbits, hdrops, haddress, hobject, hbranch, hwindow, hst⟩ := faultCausesWord_fields f (hlog q).2
    obtain ⟨hkind, hrequester, htag, hstatus, hb, hw⟩ := faultRequestWord_fields f
    obtain ⟨hgen, hclass, hindex⟩ := faultPlaceWord_fields f
    rw [hr]
    refine ⟨rfl, hheld, hgroup, hreason, hbits, hdrops, haddress, hobject, hbranch, hwindow, hst, hkind, hrequester, htag,
      ?_, ?_, ?_, hgen, fun a ha ho => addressOf_faultWords ha ho, ?_, ?_, ?_, ?_, ?_, ?_, ?_⟩
    · intro st hs
      exact (congrArg BitVec.toNat hstatus).trans (by simp [hs, Nat.mod_eq_of_lt st.code_lt])
    · intro b hb'
      exact (congrArg BitVec.toNat hb).trans (by simp [hb'])
    · intro i hi
      exact (congrArg BitVec.toNat hw).trans (by simp [hi])
    · intro c i ho ha
      refine ⟨hclass.trans ?_, hindex.trans ?_⟩ <;> simp [ho, ha]
    · intro hs
      exact hstatus.trans (by simp [hs])
    · intro hb'
      exact hb.trans (by simp [hb'])
    · intro hi
      exact hw.trans (by simp [hi])
    · intro ho
      exact hclass.trans (by simp [ho])
    · intro ha
      show faultAddressWord f = 0
      simp [faultAddressWord, placeOption, ha]
    · intro ho ha
      exact hindex.trans (by simp [ho, ha])
  case probe =>
    intro s b r p
    cases hop : p.operation with
    | none =>
      have hp : p = .idle := Probe.operation_eq_none.1 hop
      have hr : r = [0, 0, 0, 0] := by
        show probeRecord p = _
        rw [hp, probeRecord_idle]
      rw [hr, hp]
      exact ⟨rfl, rfl, fun _ _ h => (by cases h), fun _ _ _ h => (by cases h), fun _ _ h => (by cases h), fun _ _ h => (by cases h),
        fun _ => rfl, fun _ => rfl, fun _ h => (by cases h)⟩
    | some x =>
      obtain ⟨op, a⟩ := x
      have hr : r = [p.stateWord op, addressHigh a, addressLow a, op.dataWord p.result] := probeRecord_of_operation hop
      obtain ⟨hcode, hopcode, hresult⟩ := p.stateWord_fields op
      rw [hr]
      refine ⟨rfl, hcode, ?_, ?_, ?_, ?_, ?_, ?_, ?_⟩
      · rintro op' a' ⟨⟩
        exact ⟨hopcode, addressOf_high_low a⟩
      · intro op' a' x hp
        have hx : p.result = some x := Probe.result_eq_some.2 ⟨op', a', hp⟩
        exact (congrArg BitVec.toNat hresult).trans (by simp [hx, Nat.mod_eq_of_lt x.code_lt])
      · rintro w a' ⟨⟩
        rfl
      · intro a' w hp
        rw [hp] at hop ⊢
        cases hop
        rfl
      · intro hp
        rw [hp] at hop
        cases hop
      · exact fun hnot => hresult.trans (by simp [Probe.result_eq_none hnot])
      · rintro a' ⟨⟩ hnot
        exact ProbeOperation.dataWord_read (fun w hx => hnot w (Probe.eq_done hop hx))
  case free =>
    intro s n h
    simp only [State.record, h, entryRecord]
    rfl
  case entry =>
    intro s n l hn r
    have hr : r = entryRecord (.live l) (l.timeLeft s) := by
      show entryRecord s.entries[n] _ = _
      rw [hn]
      rfl
    rw [hr, entryRecord_live]
    obtain ⟨hkind, hrequester, htag, hcode⟩ := l.requestWord_fields
    obtain ⟨hbranch, hlength, hstatus, hfence⟩ := l.statusWord_fields
    refine ⟨rfl, hkind, hrequester, htag, hcode, hbranch, hlength, addressOf_high_low _, rfl, toNat_placeNat_zero,
      fun c hc => ?_, fun hnot => ?_⟩
    · have hcomplete : l.completion = some c := LiveEntry.completion_of_complete hc
      have hf : l.fence = c.fence := by simp [LiveEntry.fence, hcomplete]
      refine ⟨(congrArg BitVec.toNat hstatus).trans ?_, hfence.trans (by rw [hf]),
        congrArg (fun f : Option (BitVec 16) => (f.getD 0).setWidth 32) hf, fun htimer => ?_⟩
      · simp [hcomplete, Nat.mod_eq_of_lt c.status.code_lt]
      · have hword : placeOption l.completion (fun _ => BitVec.ofNat 16 (l.timeLeft s)) 0 = placeNat (s.timeLeft c.timer) 16 0 := by
          rw [hcomplete, LiveEntry.timeLeft_of_complete hc]
          rfl
        obtain ⟨hpos, hle⟩ := State.timeLeft_bounds s htimer
        have hlt := c.timer.isLt
        show 1 ≤ (placeOption l.completion _ 0).toNat ∧ (placeOption l.completion _ 0).toNat ≤ _
        rw [hword, toNat_placeNat_zero (by omega)]
        exact ⟨hpos, hle⟩
    · have hnone : l.completion = none := LiveEntry.completion_eq_none hnot
      have hf : l.fence = none := by simp [LiveEntry.fence, hnone]
      refine ⟨hstatus.trans (by simp [hnone]), hfence.trans (by simp [hf]), ?_, ?_⟩
      · exact congrArg (fun f : Option (BitVec 16) => (f.getD 0).setWidth 32) hf
      · show placeOption l.completion _ 0 = 0
        rw [hnone]
        rfl
  case sets => decide
  case group6 =>
    exact fun x st => ⟨rfl, rfl, rfl, rfl, rfl⟩
  case reason =>
    intro c hc
    cases c with
    | undelivered x => exact absurd rfl (hc x)
    | _ => rfl
  case held =>
    intro c hc
    cases c with
    | uncollected x => exact absurd rfl (hc x)
    | _ => rfl
  case alert =>
    intro s r
    obtain ⟨hdest, hzero, henabled⟩ := alertEnabledWord_fields s.alerts s.alertDest
    exact ⟨rfl, hdest, hzero, fun c _ => ⟨henabled c, alertRaisedWord_fields s.alerts s.alertDest c⟩⟩

end Sys2Proof.Machine

namespace Sys2Proof.Machine

/-! O7 and O38: what a change of a queue makes of its level flag, and the end of the issue of a posted item. -/

/-! ### The level flag -/

/-- R70: the level flag of a branch brought up to date; LEVEL is raised when the flag goes from clear to set. -/
theorem State.syncLevel_eq (s : State) (b : BranchId) :
    s.syncLevel b = (s.modBranch b (fun br => { br with level := br.atWatermark })).RaisesLevel b s.branches[b].level := by
  simp only [State.syncLevel, State.RaisesLevel, State.modBranch_get, if_true, Bool.and_eq_true, Bool.not_eq_true']

/-- R59, R70: a queue is replaced together with its level flag. -/
theorem State.setQueue_eq (s : State) (b : BranchId) (q : List Item) :
    s.setQueue b q
      = (s.modBranch b (fun br => { br with queue := q, level := decide (br.watermark.toNat ≤ q.length) })).RaisesLevel b
          s.branches[b].level := by
  rw [State.setQueue, State.syncLevel_eq, State.modBranch_modBranch, State.modBranch_get, if_pos rfl]
  rfl

theorem getLsbD_placeFlag (f : Bool) {i j : Nat} (hj : j < 32) : (placeFlag f i).getLsbD j = (decide (j = i) && f) := by
  by_cases h : j = i
  · subst h
    simpa [bit] using bit_placeFlag f j hj
  · simpa [bit, h] using bit_placeFlag_of_ne f i j h

/-- R174: bit i of the detail of LEVEL is the level flag of the branch i, when there is one. -/
theorem State.getLsbD_levelSet (s : State) (i : Nat) (hi : i < 32) :
    s.levelSet.getLsbD i
      = (decide (i = 0) && s.branches[(0 : BranchId)].level || decide (i = 1) && s.branches[(1 : BranchId)].level
        || decide (i = 2) && s.branches[(2 : BranchId)].level || decide (i = 3) && s.branches[(3 : BranchId)].level) := by
  simp only [State.levelSet, BitVec.getLsbD_or, getLsbD_placeFlag _ hi]

theorem State.getLsbD_levelSet_branch (s : State) (b : BranchId) : s.levelSet.getLsbD b = s.branches[b].level := by
  rw [State.getLsbD_levelSet s b (by omega)]
  match b with
  | 0 | 1 | 2 | 3 => simp

theorem State.getLsbD_levelSet_of_le (s : State) {i : Nat} (h : 4 ≤ i) : s.levelSet.getLsbD i = false := by
  by_cases hi : i < 32
  · rw [State.getLsbD_levelSet s i hi]
    simp [show i ≠ 0 by omega, show i ≠ 1 by omega, show i ≠ 2 by omega, show i ≠ 3 by omega]
  · exact BitVec.getLsbD_of_ge _ _ (by omega)

/-- Settles O7: a queue is replaced together with its level flag, and the detail of LEVEL is read bit by bit. -/
theorem levelFlagFollowsItemCount : Obligations.LevelFlagFollowsItemCount := by
  refine ⟨fun s b q => ?_, fun s b it => rfl, State.getLsbD_levelSet_branch, fun s i h => s.getLsbD_levelSet_of_le h⟩
  intro br level u
  have hlevel : u.branches[b].level = level :=
    congrArg Branch.level ((State.modBranch_get s b b (fun br => { br with queue := q, level := level })).trans (if_pos rfl))
  rw [State.setQueue_eq]
  show (if u.branches[b].level = true ∧ br.level = false then u.raise .level u.levelSet else u) = _
  rw [hlevel]

/-! ### The end of the issue of a posted item -/

/-- R64: the head in BACKOFF for the retry interval of its branch. -/
theorem State.backOff_eq {s : State} {b : BranchId} {p : PostedItem} {rest : List Item} {i : BitVec 8}
    (h : s.branches[b].interval = i) :
    s.backOff b p rest
      = { s with
          branches := s.branches.set b
            { s.branches[b] with queue := .posted { p with state := .backoff i } :: rest } } := by
  subst h
  rfl

/-- Settles O38: the ending decides what becomes of the head, and the drain is looked at last. -/
theorem postedIssueEndsByAnswerOrTimeout : Obligations.PostedIssueEndsByAnswerOrTimeout := by
  intro b p rest c e s u hends hout hq v dropped
  have hq' : (u.clearOutstanding b).branches[b].queue = .posted p :: rest := by rw [State.clearOutstanding_get, hq]
  have hbudget : (u.clearOutstanding b).branches[b].budget = u.branches[b].budget := by rw [State.clearOutstanding_get]
  have hinterval : (u.clearOutstanding b).branches[b].interval = u.branches[b].interval := by rw [State.clearOutstanding_get]
  rw [exec_of_endsIssue hends hout rfl]
  simp only [State.endIssue, State.endPosted, hq']
  cases e with
  | done ws => rfl
  | refuse => rfl
  | timeout => rfl
  | later =>
    simp only [hbudget]
    split
    · exact congrArg (fun t : State => Host.Outcome.next t.drainEnd) (State.backOff_eq hinterval)
    · rfl

end Sys2Proof.Machine

namespace Sys2Proof.Machine

/-! O31: the five rows that write BRANCH. -/

/-! ### The record of a row -/

/-- A flag of the word of the row's one-bit field: the field itself, or a flag of the word as it was. -/
theorem bit_wordAt_withField (ws : List Word) (k lo : Nat) (v : BitVec 1) {i : Nat} (hk : k < ws.length) (hi : i < 32) :
    bit (wordAt (withField ws k lo 1 v) k) i = if i = lo then v.getLsbD 0 else bit (wordAt ws k) i := by
  have hword : wordAt (withField ws k lo 1 v) k = (ws[k] &&& ~~~(place (BitVec.allOnes 1) lo)) ||| place v lo := by
    simp [wordAt, withField, hk]
  have hold : wordAt ws k = ws[k] := by simp [wordAt, hk]
  rw [hword, hold, bit, getLsbD_setField _ _ _ _ hi]
  by_cases h : i = lo
  · subst h
    simp
  · rw [if_neg h, if_neg (by omega), bit]

/-- R175 (log 3): a row that names the hold flag or the reset flag changes no setting of the record. -/
theorem BranchSettings.ofWords_withField {ws : List Word} (hlength : 1 < ws.length) {lo : Nat} (hlo : 16 ≤ lo) (v : BitVec 1) :
    BranchSettings.ofWords (withField ws 1 lo 1 v)
      = { BranchSettings.ofWords ws with
          hold := if 16 = lo then v.getLsbD 0 else (BranchSettings.ofWords ws).hold
          reset := if 17 = lo then v.getLsbD 0 else (BranchSettings.ofWords ws).reset } := by
  simp only [BranchSettings.ofWords, wordAt_withField_of_ne ws 1 0 lo v (by decide),
    bit_wordAt_withField ws 1 lo v hlength (show 16 < 32 by decide), bit_wordAt_withField ws 1 lo v hlength (show 17 < 32 by decide),
    bits_wordAt_withField_of_disjoint ws 1 lo v 8 5 hlength (by decide) (by omega),
    bits_wordAt_withField_of_disjoint ws 1 lo v 0 5 hlength (by decide) (by omega)]

section
variable {c : Instr} {m w : ObjectWrite} {hold reset : Bool} {s u : State}

/-- R80, R98 (log 3): the command takes the MW w, whose requester, tag and index are those of m. -/
theorem WritesBranch.takes (h : WritesBranch c m w hold reset) :
    exec c s = .next (s.takeWrite (objectRequest w .branch)) ∧ w.index = m.index ∧ u.answerOk w = u.answerOk m := by
  rcases h with ⟨rfl, rfl, -⟩ | ⟨rfl, rfl, -⟩ | ⟨rfl, rfl, -⟩ | ⟨rfl, rfl, -⟩ | ⟨rfl, rfl, -⟩ <;> exact ⟨rfl, rfl, rfl⟩

/-- R80, R98 (log 3): the record of w holds the settings of m, and the flags of the row. -/
theorem WritesBranch.record (h : WritesBranch c m w hold reset) (hlength : w.words.length = 4) :
    BranchSettings.ofWords w.words = { BranchSettings.ofWords m.words with hold := hold, reset := reset } := by
  have hfield : ∀ {lo : Nat} {v : BitVec 1}, (objectWithField m 1 lo 1 v).words.length = 4 → 1 < m.words.length := fun hl => by
    rw [objectWithField, length_withField] at hl
    omega
  rcases h with ⟨-, rfl, rfl, rfl⟩ | ⟨-, rfl, rfl, rfl⟩ | ⟨-, rfl, rfl, rfl⟩ | ⟨-, rfl, rfl, rfl⟩ | ⟨-, rfl, rfl, rfl⟩
  · rfl
  all_goals exact BranchSettings.ofWords_withField (hfield hlength) (by decide) _

end

/-! ### The effect -/

/-- R155: what makes a written BRANCH record a BAD-VALUE. -/
theorem State.badValue_branch {s : State} {b : BranchId} {ws : List Word} :
    s.badValue (.branch b) ws = true ↔ (BranchSettings.ofWords ws).OutOfRange := by
  simp only [State.badValue, Bool.or_eq_true, decide_eq_true_eq, or_assoc]

/-- R141: a raise and a change of a branch do not meet. -/
theorem State.modBranch_raise (s : State) (b : BranchId) (f : Branch → Branch) (c : AlertKind) (d : Word) :
    (s.raise c d).modBranch b f = (s.modBranch b f).raise c d := by
  simp only [State.raise]
  by_cases h : (s.alerts.get c).raised.isSome = true
  · rw [if_pos h, if_pos (show ((s.modBranch b f).alerts.get c).raised.isSome = true from h)]
  · rw [if_neg h, if_neg (show ¬ ((s.modBranch b f).alerts.get c).raised.isSome = true from h), State.modBranch_alerts]
    split <;> rfl

section
variable {s : State} {b : BranchId} {f : Branch → Branch}

theorem State.level_modBranch (hf : ∀ br, (f br).level = br.level) (c : BranchId) :
    (s.modBranch b f).branches[c].level = s.branches[c].level := by
  rw [State.modBranch_get]
  split
  · rename_i hbc
    rw [hf, hbc]
  · rfl

theorem State.levelSet_modBranch (hf : ∀ br, (f br).level = br.level) : (s.modBranch b f).levelSet = s.levelSet := by
  simp only [State.levelSet, State.level_modBranch hf]

/-- A change of a branch after the raise of LEVEL, in other fields than the level flag, might as well come before it. -/
theorem State.modBranch_raisesLevel (hf : ∀ br, (f br).level = br.level) (before : Bool) :
    (s.RaisesLevel b before).modBranch b f = (s.modBranch b f).RaisesLevel b before := by
  simp only [State.RaisesLevel, State.level_modBranch hf, State.levelSet_modBranch hf]
  split
  · exact State.modBranch_raise s b f _ _
  · rfl

/-- R71: LEVEL is not raised when the level flag is as it was before. -/
theorem State.raisesLevel_of_eq {before : Bool} (h : s.branches[b].level = before) : s.RaisesLevel b before = s := by
  refine if_neg (fun ⟨hset, hclear⟩ => ?_)
  exact Bool.noConfusion ((h.symm.trans hset).symm.trans hclear)

/-- A change of a branch is what it makes of that branch. -/
theorem State.modBranch_congr {g : Branch → Branch} (h : f s.branches[b] = g s.branches[b]) : s.modBranch b f = s.modBranch b g := by
  rw [State.modBranch, h, State.modBranch]

/-- R71, R98: a branch with the settings of a BRANCH record, its flags as they are; the level flag follows a watermark that changes. -/
def Branch.adjust (v : BranchSettings) (br : Branch) : Branch := br.Stored v br.hold br.reset

theorem Branch.adjust_of_watermark_eq {br : Branch} {v : BranchSettings} (h : br.watermark = v.watermark) :
    br.adjust v = br.store v := by
  simp only [Branch.adjust, Branch.Stored, Branch.store, h, if_true]

theorem Branch.adjust_of_watermark_ne {br : Branch} {v : BranchSettings} (h : br.watermark ≠ v.watermark) :
    br.adjust v = { br.store v with level := (br.store v).atWatermark } := by
  simp only [Branch.adjust, Branch.Stored, Branch.store, Branch.atWatermark, if_neg (Ne.symm h)]
  rfl

/-- R71, R98: an accepted MW of BRANCH: the settings with the level flag, and then the flags. -/
theorem State.writeBranch_eq (s : State) (b : BranchId) (v : BranchSettings) :
    s.writeBranch b v
      = ((s.modBranch b (Branch.adjust v)).RaisesLevel b s.branches[b].level).applyFlags b v.hold v.reset := by
  refine congrArg (fun t : State => t.applyFlags b v.hold v.reset) ?_
  by_cases h : s.branches[b].watermark = v.watermark
  · rw [if_pos h, State.modBranch_congr (f := Branch.adjust v) (g := fun br => br.store v) (Branch.adjust_of_watermark_eq h)]
    refine (State.raisesLevel_of_eq ?_).symm
    rw [State.modBranch_get, if_pos rfl]
    rfl
  · rw [if_neg h, State.syncLevel_eq, State.modBranch_modBranch, State.modBranch_get, if_pos rfl,
      State.modBranch_congr (f := Branch.adjust v)
        (g := fun br => { br.store v with level := (br.store v).atWatermark }) (Branch.adjust_of_watermark_ne h)]
    rfl

/-- R79, R80: flags that do not take the reset flag from clear to set are only stored. -/
theorem State.applyFlags_eq {hold reset : Bool} (h : reset = true → s.branches[b].reset = true) :
    s.applyFlags b hold reset = s.modBranch b (fun br => br.setFlags hold reset) := by
  refine if_neg (fun hset => ?_)
  obtain ⟨hnew, hclear⟩ := Bool.and_eq_true_iff.1 hset
  rw [h hnew] at hclear
  cases hclear

theorem State.raisesLevel_get (before : Bool) (c : BranchId) : (s.RaisesLevel b before).branches[c] = s.branches[c] := by
  unfold State.RaisesLevel
  split
  · simp only [State.raise_frame]
  · rfl

/-- R71, R80, R98: without a reset flag that goes from clear to set, the settings and the flags are stored, and the level flag follows. -/
theorem State.writeBranch_of_no_reset {v : BranchSettings} (h : v.reset = true → s.branches[b].reset = true) :
    s.writeBranch b v = (s.modBranch b (fun br => br.Stored v v.hold v.reset)).RaisesLevel b s.branches[b].level := by
  rw [State.writeBranch_eq, State.applyFlags_eq, State.modBranch_raisesLevel (f := fun br => br.setFlags v.hold v.reset) (fun _ => rfl),
    State.modBranch_modBranch]
  · rfl
  · rw [State.raisesLevel_get, State.modBranch_get, if_pos rfl]
    exact h

end

/-- Settles O31: each row's MW carries the settings of its record with its own flag, and the value group decides between the refusal and
the store. -/
theorem branchSettingsAndFlagsAreStored : Obligations.BranchSettingsAndFlagsAreStored := by
  intro c m w b hold reset s u hrow hw hi v br
  obtain ⟨hexec, hindex, hanswer⟩ := hrow.takes (s := s) (u := u)
  have hrecord : BranchSettings.ofWords w.words = { v with hold := hold, reset := reset } := hrow.record hw.2.2.1
  have hfind : Object.find ObjectClass.branch.code w.index = some (.branch b) := by
    simp only [Object.find, ObjectClass.ofCode_code, hindex, indexIn_eq hi, Option.map_some]
  have hbad : u.badValue (.branch b) w.words = true ↔ v.OutOfRange := by
    rw [State.badValue_branch, hrecord]
  have hbusy : u.objectBusy (.branch b) w.words = false := rfl
  rw [hexec, State.takeWrite_of_writes hw rfl hfind rfl, hbusy, Bool.or_false]
  refine ⟨fun hgood hreset => ?stored, fun hout => ?refused⟩
  case stored =>
    have hbranches : (u.answerOk m).branches = u.branches := by simp only [State.answerOk, State.answer_frame]
    rw [if_neg (mt hbad.1 hgood), State.applyWrite, hrecord, hanswer, State.writeBranch_of_no_reset (by rwa [hbranches])]
    simp only [State.modBranch, hbranches]
    rfl
  case refused =>
    rw [if_pos (hbad.2 hout), hbad.2 hout]
    rfl

end Sys2Proof.Machine

namespace Sys2Proof.Machine

/-! O53 and O56: the bounds of the queues, of the fault logs and of the settings, and that the level flags are right. The laws look at a
part of the state only, the ledger; every command keeps each bound that holds of it. -/

/-! ### The ledger -/

/-- What the laws of the queues, the settings and the level flags look at in a branch. -/
structure BranchStock where
  queue : List Item
  level : Bool
  budget : BitVec 16
  interval : BitVec 8
  timeout : BitVec 8
  watermark : BitVec 5

/-- The stock of a branch. -/
def Branch.stock (br : Branch) : BranchStock :=
  { queue := br.queue, level := br.level, budget := br.budget, interval := br.interval, timeout := br.timeout
    watermark := br.watermark }

/-- R56: the queue holds at most 16 items and 256 words of posted data. -/
def BranchStock.Fits (v : BranchStock) : Prop := v.queue.length ≤ 16 ∧ queueWords v.queue ≤ 256

/-- R98: every setting of the branch is in its range. -/
def BranchStock.InRange (v : BranchStock) : Prop :=
  v.budget ≠ 0 ∧ v.interval ≠ 0 ∧ v.timeout ≠ 0 ∧ v.watermark ≠ 0 ∧ v.watermark ≤ 16

/-- R70: the level flag is set exactly while the item count is equal to or above the watermark. -/
def BranchStock.Levelled (v : BranchStock) : Prop := v.level = decide (v.watermark.toNat ≤ v.queue.length)

/-- R135: a log holds at most 4 entries, and its drop count is at most 255. -/
def FaultLog.Bounded (l : FaultLog) : Prop := l.entries.length ≤ 4 ∧ l.drops ≤ 255

/-- What the laws of queues, logs, settings and level flags look at in a state. -/
structure Ledger where
  branches : BranchId → BranchStock
  logs : Requester → FaultLog
  quotas : Requester → BitVec 5
  collectionLimit : BitVec 16
  drainLimit : BitVec 16

/-- The ledger of a state. -/
def State.ledger (s : State) : Ledger :=
  { branches := fun b => s.branches[b].stock, logs := fun r => s.logs[r], quotas := fun r => s.settings[r].quota
    collectionLimit := s.collectionLimit, drainLimit := s.drainLimit }

/-- Each bound that a branch meets before, it meets after; the level flag is right after when it was and the settings were in range:
a branch that is emptied clears the flag, which is right because the watermark is not 0. -/
structure BranchStock.Keeps (v w : BranchStock) : Prop where
  fits : v.Fits → w.Fits
  inRange : v.InRange → w.InRange
  levelled : v.InRange → v.Levelled → w.Levelled

/-- Each bound that the ledger meets before, it meets after. -/
structure Ledger.Keeps (g h : Ledger) : Prop where
  branch : ∀ b, (g.branches b).Keeps (h.branches b)
  log : ∀ r, (g.logs r).Bounded → (h.logs r).Bounded
  quota : ∀ r, g.quotas r ≤ 16 → h.quotas r ≤ 16
  collection : g.collectionLimit ≠ 0 → h.collectionLimit ≠ 0
  drain : g.drainLimit ≠ 0 → h.drainLimit ≠ 0

/-- Each bound that s meets, t meets. -/
def State.KeepsBounds (s t : State) : Prop := s.ledger.Keeps t.ledger

theorem BranchStock.Keeps.refl (v : BranchStock) : v.Keeps v := ⟨id, id, fun _ => id⟩

theorem BranchStock.Keeps.trans {v w x : BranchStock} (h : v.Keeps w) (h' : w.Keeps x) : v.Keeps x :=
  ⟨h'.fits ∘ h.fits, h'.inRange ∘ h.inRange, fun hr hl => h'.levelled (h.inRange hr) (h.levelled hr hl)⟩

theorem Ledger.Keeps.refl (g : Ledger) : g.Keeps g := ⟨fun _ => .refl _, fun _ => id, fun _ => id, id, id⟩

theorem State.KeepsBounds.refl (s : State) : s.KeepsBounds s := Ledger.Keeps.refl _

/-- Work that leaves the ledger alone. -/
theorem State.KeepsBounds.congr {s t u : State} (h : s.KeepsBounds t) (he : u.ledger = t.ledger) : s.KeepsBounds u := by
  rwa [State.KeepsBounds, he]

/-- The laws of the claims are those on the ledger. -/
theorem State.queueLaw_iff {s : State} : s.QueueLaw ↔ ∀ b, (s.ledger.branches b).Fits := .rfl

theorem State.logLaw_iff {s : State} : s.LogLaw ↔ ∀ r, (s.ledger.logs r).Bounded := .rfl

theorem State.levelLaw_iff {s : State} : s.LevelLaw ↔ ∀ b, (s.ledger.branches b).Levelled := .rfl

theorem State.settingsLaw_iff {s : State} :
    s.SettingsLaw ↔ (∀ b, (s.ledger.branches b).InRange) ∧ (∀ r, s.ledger.quotas r ≤ 16) ∧ s.ledger.collectionLimit ≠ 0
      ∧ s.ledger.drainLimit ≠ 0 := .rfl

theorem State.KeepsBounds.queueLaw {s t : State} (h : s.KeepsBounds t) (hs : s.QueueLaw) : t.QueueLaw :=
  State.queueLaw_iff.2 (fun b => (h.branch b).fits (State.queueLaw_iff.1 hs b))

theorem State.KeepsBounds.logLaw {s t : State} (h : s.KeepsBounds t) (hs : s.LogLaw) : t.LogLaw :=
  State.logLaw_iff.2 (fun r => h.log r (State.logLaw_iff.1 hs r))

theorem State.KeepsBounds.settingsLaw {s t : State} (h : s.KeepsBounds t) (hs : s.SettingsLaw) : t.SettingsLaw := by
  obtain ⟨hbranch, hquota, hcollection, hdrain⟩ := State.settingsLaw_iff.1 hs
  exact State.settingsLaw_iff.2
    ⟨fun b => (h.branch b).inRange (hbranch b), fun r => h.quota r (hquota r), h.collection hcollection, h.drain hdrain⟩

theorem State.KeepsBounds.levelLaw {s t : State} (h : s.KeepsBounds t) (hs : s.SettingsLaw) (hl : s.LevelLaw) : t.LevelLaw :=
  State.levelLaw_iff.2 (fun b => (h.branch b).levelled ((State.settingsLaw_iff.1 hs).1 b) (State.levelLaw_iff.1 hl b))

/-! ### Changes of one branch -/

theorem queueWords_cons (it : Item) (q : List Item) : queueWords (it :: q) = it.words + queueWords q := rfl

theorem queueWords_append (q q' : List Item) : queueWords (q ++ q') = queueWords q + queueWords q' := by simp [queueWords]

theorem queueWords_le_of_sublist {q q' : List Item} (h : q'.Sublist q) : queueWords q' ≤ queueWords q :=
  (h.map Item.words).sum_le_sum (fun _ _ => Nat.zero_le _)

section
variable {v : BranchStock} {q : List Item} {it : Item}

/-- R59, R70: the queue is replaced together with the level flag. -/
theorem BranchStock.Keeps.setQueue (hq : v.Fits → q.length ≤ 16 ∧ queueWords q ≤ 256) :
    v.Keeps { v with queue := q, level := decide (v.watermark.toNat ≤ q.length) } := ⟨hq, id, fun _ _ => rfl⟩

/-- Items leave the queue. -/
theorem BranchStock.Fits.of_sublist (h : v.Fits) (hq : q.Sublist v.queue) : q.length ≤ 16 ∧ queueWords q ≤ 256 :=
  ⟨hq.length_le.trans h.1, (queueWords_le_of_sublist hq).trans h.2⟩

/-- R19, R20, R55: an item joins a queue that has room for it. -/
theorem BranchStock.Fits.append (hitems : v.queue.length < 16) (hwords : v.Fits → queueWords v.queue + it.words ≤ 256) (h : v.Fits) :
    (v.queue ++ [it]).length ≤ 16 ∧ queueWords (v.queue ++ [it]) ≤ 256 := by
  refine ⟨by simpa using hitems, ?_⟩
  rw [queueWords_append]
  exact hwords h

/-- The head is replaced by an item that counts as many words. -/
theorem BranchStock.Keeps.replaceHead {it' : Item} (hq : v.queue = it :: q) (hw : it'.words = it.words) :
    v.Keeps { v with queue := it' :: q } where
  fits h := by simpa [BranchStock.Fits, hq, queueWords_cons, hw] using h
  inRange := id
  levelled _ hl := by simpa [BranchStock.Levelled, hq] using hl

/-- R81: a branch loss empties the queue and clears the level flag. -/
theorem BranchStock.Keeps.empty : v.Keeps { v with queue := [], level := false } where
  fits _ := ⟨Nat.zero_le _, Nat.zero_le _⟩
  inRange := id
  levelled hr _ := by
    obtain ⟨-, -, -, hwatermark, -⟩ := hr
    have hpos : ¬ v.watermark.toNat ≤ 0 := fun h => hwatermark (BitVec.eq_of_toNat_eq (Nat.le_zero.1 h))
    simpa [BranchStock.Levelled] using hpos

end

/-- R73: what a trunk loss leaves of a branch. -/
theorem Branch.keeps_afterTrunkLoss (br : Branch) : br.stock.Keeps br.afterTrunkLoss.stock :=
  .setQueue (fun h => h.of_sublist List.filter_sublist)

/-- R64: the retry interval of the head runs out. -/
theorem Branch.keeps_endBackoff (br : Branch) : br.stock.Keeps br.endBackoff.stock := by
  unfold Branch.endBackoff
  split
  · rename_i p rest hq
    split
    · exact .replaceHead (v := br.stock) hq rfl
    · exact .refl _
  · exact .refl _

/-- R98, R155: settings in their ranges are stored, and the level flag follows the watermark. -/
theorem Branch.keeps_adjust (br : Branch) {v : BranchSettings} (hv : ¬ v.OutOfRange) : br.stock.Keeps (br.adjust v).stock where
  fits := id
  inRange _ := by
    simp only [not_or, BitVec.not_lt] at hv
    exact hv
  levelled _ hl := by
    by_cases h : v.watermark = br.watermark
    · have hlevel : (br.adjust v).level = br.level := if_pos h
      exact hlevel.trans (hl.trans (congrArg (fun w : BitVec 5 => decide (w.toNat ≤ br.queue.length)) h.symm))
    · exact if_neg h

section
variable {s t : State} {b : BranchId} {n : EntryId}

theorem State.KeepsBounds.modBranch {f : Branch → Branch} (h : s.KeepsBounds t) (hf : t.branches[b].stock.Keeps (f t.branches[b]).stock) :
    s.KeepsBounds (t.modBranch b f) := by
  refine ⟨fun c => (h.branch c).trans ?_, h.log, h.quota, h.collection, h.drain⟩
  simp only [State.ledger, State.modBranch_get]
  split
  · rename_i hbc
    exact hbc ▸ hf
  · exact .refl _

theorem State.KeepsBounds.mapBranches {f : Branch → Branch} (h : s.KeepsBounds t) (hf : ∀ br : Branch, br.stock.Keeps (f br).stock) :
    s.KeepsBounds (t.mapBranches f) := by
  refine ⟨fun c => (h.branch c).trans ?_, h.log, h.quota, h.collection, h.drain⟩
  simp only [State.ledger, State.mapBranches_get]
  exact hf _

/-! ### Faults, alerts, queues -/

theorem State.KeepsBounds.emit {p : Port} {f : Frame} (h : s.KeepsBounds t) : s.KeepsBounds (t.emit p f) := h

theorem State.KeepsBounds.setEntry {e : Entry} (h : s.KeepsBounds t) : s.KeepsBounds (t.setEntry n e) := h

theorem State.KeepsBounds.mapEntries {f : Entry → Entry} (h : s.KeepsBounds t) : s.KeepsBounds (t.mapEntries f) := h

theorem State.KeepsBounds.putAlert {c : AlertKind} {a : AlertClass} (h : s.KeepsBounds t) : s.KeepsBounds (t.putAlert c a) := h

theorem State.KeepsBounds.pushNotice {o : NoticeSource} {d : Requester} {ws : List Word} (h : s.KeepsBounds t) :
    s.KeepsBounds (t.pushNotice o d ws) := h

theorem State.KeepsBounds.raise {c : AlertKind} {d : Word} (h : s.KeepsBounds t) : s.KeepsBounds (t.raise c d) :=
  h.congr (by simp only [State.ledger, State.raise_frame])

theorem State.KeepsBounds.raisesLevel {before : Bool} (h : s.KeepsBounds t) : s.KeepsBounds (t.RaisesLevel b before) := by
  unfold State.RaisesLevel
  split
  · exact h.raise
  · exact h

theorem State.KeepsBounds.answer {r : Requester} {k : Tag} {a : AnswerBody} (h : s.KeepsBounds t) : s.KeepsBounds (t.answer r k a) :=
  h.congr (by simp only [State.ledger, State.answer_frame])

theorem getElem_set_fin {α : Type} {m : Nat} (xs : Vector α m) (i j : Fin m) (x : α) :
    (xs.set i x)[j] = if i = j then x else xs[j] := by
  simp only [Fin.getElem_fin, Vector.getElem_set, Fin.ext_iff]

/-- A log is replaced by one that is within its bounds if the old one is. -/
theorem State.KeepsBounds.setLog {r : Requester} {l : FaultLog} (h : s.KeepsBounds t) (hl : t.logs[r].Bounded → l.Bounded) :
    s.KeepsBounds { t with logs := t.logs.set r l } := by
  refine ⟨h.branch, fun x hx => ?_, h.quota, h.collection, h.drain⟩
  have hold : t.logs[x].Bounded := h.log x hx
  show (t.logs.set r l)[x].Bounded
  rw [getElem_set_fin]
  split
  · rename_i hrx
    exact hl (hrx ▸ hold)
  · exact hold

/-- R135: a log with room takes a fault entry; a full one counts it, up to 255. -/
theorem FaultLog.Bounded.add {l : FaultLog} (h : l.Bounded) (f : FaultEntry) : (l.add f).Bounded := by
  obtain ⟨hentries, hdrops⟩ := h
  unfold FaultLog.add
  split
  · rename_i hroom
    refine ⟨?_, hdrops⟩
    rw [List.length_append]
    exact hroom
  · exact ⟨hentries, Nat.min_le_right _ _⟩

/-- R138: TAKE removes an entry, and clears the drop count or leaves it. -/
theorem FaultLog.Bounded.take {l : FaultLog} (h : l.Bounded) (clear : Bool) : (l.take clear).Bounded := by
  obtain ⟨hentries, hdrops⟩ := h
  refine ⟨(List.tail_sublist _).length_le.trans hentries, ?_⟩
  cases clear with
  | true => exact Nat.zero_le _
  | false => exact hdrops

theorem State.KeepsBounds.handFault {f : FaultEntry} (h : s.KeepsBounds t) : s.KeepsBounds (t.handFault f) := by
  have hlog : s.KeepsBounds { t with logs := t.logs.set f.requester (t.logs[f.requester].add f) } := h.setLog (fun hl => hl.add f)
  unfold State.handFault
  cases f.causes.ownClass with
  | none =>
    simp only
    split
    · exact hlog.raise
    · exact hlog
  | some c =>
    simp only
    split
    · exact hlog.raise.raise
    · exact hlog.raise

theorem State.KeepsBounds.setQueue {q : List Item} (h : s.KeepsBounds t)
    (hq : t.branches[b].stock.Fits → q.length ≤ 16 ∧ queueWords q ≤ 256) : s.KeepsBounds (t.setQueue b q) := by
  rw [State.setQueue_eq]
  exact (h.modBranch (BranchStock.Keeps.setQueue hq)).raisesLevel

/-- Items leave a queue. -/
theorem State.KeepsBounds.shrinkQueue {q : List Item} (h : s.KeepsBounds t) (hq : q.Sublist t.branches[b].queue) :
    s.KeepsBounds (t.setQueue b q) := h.setQueue (fun hfits => hfits.of_sublist hq)

theorem State.KeepsBounds.reportLost {q : List Item} (h : s.KeepsBounds t) : s.KeepsBounds (t.reportLost b q) := by
  induction q generalizing t with
  | nil => exact h
  | cons it rest ih =>
    cases it with
    | posted p => exact ih h.handFault
    | ref n => exact ih h

theorem State.KeepsBounds.endCommit {o : CommitOutcome} (h : s.KeepsBounds t) : s.KeepsBounds (t.endCommit o) :=
  h.congr (by simp only [State.ledger, State.endCommit_frame])

theorem State.KeepsBounds.commitSwap (h : s.KeepsBounds t) : s.KeepsBounds t.commitSwap :=
  h.congr (by simp only [State.ledger, State.commitSwap_frame])

theorem State.KeepsBounds.drainEnd (h : s.KeepsBounds t) : s.KeepsBounds t.drainEnd :=
  h.congr (by simp only [State.ledger, State.drainEnd_frame])

/-! ### Ports -/

variable {p : Port}

theorem State.KeepsBounds.setLink {l : LinkPort} (h : s.KeepsBounds t) : s.KeepsBounds (t.setLink p l) := by
  cases p with
  | trunk => exact h
  | branch b => exact h.modBranch (.refl _)

theorem State.KeepsBounds.modLink {f : LinkPort → LinkPort} (h : s.KeepsBounds t) : s.KeepsBounds (t.modLink p f) := h.setLink

theorem State.KeepsBounds.sendData {ws : List Word} (h : s.KeepsBounds t) : s.KeepsBounds (t.sendData p ws) := h.setLink.emit

theorem State.KeepsBounds.sendWaiting {ps : List BranchPacket} (h : s.KeepsBounds t) : s.KeepsBounds (t.sendWaiting b ps) := by
  induction ps generalizing t with
  | nil => exact h.modBranch (.refl _)
  | cons p rest ih =>
    unfold State.sendWaiting
    split
    · exact ih h.sendData
    · exact h.modBranch (.refl _)

theorem State.KeepsBounds.handToPort {x : BranchPacket} (h : s.KeepsBounds t) : s.KeepsBounds (t.handToPort b x) := h.sendWaiting

/-! ### Losses -/

theorem State.KeepsBounds.branchLoss (h : s.KeepsBounds t) : s.KeepsBounds (t.branchLoss b) :=
  (h.mapEntries.modBranch .empty).reportLost.drainEnd

theorem State.KeepsBounds.trunkLoss (h : s.KeepsBounds t) : s.KeepsBounds t.trunkLoss :=
  (h.mapEntries.mapBranches Branch.keeps_afterTrunkLoss).drainEnd

theorem State.KeepsBounds.linkLost (h : s.KeepsBounds t) : s.KeepsBounds (t.linkLost p) := by
  cases p with
  | trunk =>
    have hdown : s.KeepsBounds { t with trunk := { link := t.trunk.link.lose, answers := [], delivered := [], lost := true } } := h
    exact hdown.trunkLoss
  | branch b =>
    have hdown : s.KeepsBounds (t.modBranch b Branch.loseLink) := h.modBranch (.refl _)
    simp only [State.linkLost]
    split
    · exact hdown.branchLoss
    · exact hdown

/-! ### Requests -/

theorem State.length_lt_of_roomForEntry {r : Requester} (h : t.roomForEntry r b = .inr n) : t.branches[b].queue.length < 16 := by
  unfold State.roomForEntry at h
  split at h
  · cases h
  · split at h
    · cases h
    · split at h
      · cases h
      · rename_i hroom
        exact Nat.not_le.1 hroom

theorem State.room_of_lacksForPosted {q : MemoryRequest} (h : t.lacksForPosted q b = none) :
    t.branches[b].queue.length < 16 ∧ queueWords t.branches[b].queue + q.length.toNat ≤ 256 := by
  unfold State.lacksForPosted at h
  split at h
  · cases h
  · rename_i hitems
    split at h
    · cases h
    · rename_i hwords
      exact ⟨Nat.not_le.1 hitems, Nat.not_lt.1 hwords⟩

/-- R19 to R22: a request is taken in only when the queue has room for its item and its words. -/
theorem State.KeepsBounds.takeIn {k : MemKind} {q : MemoryRequest} {a : Address} (h : s.KeepsBounds t) :
    s.KeepsBounds (t.takeIn k q a b) := by
  cases k with
  | np k =>
    simp only [State.takeIn]
    split
    · exact h.answer
    · rename_i n hroom
      have hfilled : s.KeepsBounds ({ t with fresh := t.fresh + 1 } : State) := h
      refine State.KeepsBounds.answer (hfilled.setEntry.setQueue (BranchStock.Fits.append ?_ (fun hfits => hfits.2)))
      exact State.length_lt_of_roomForEntry (t := t) hroom
  | wrp =>
    simp only [State.takeIn]
    split
    · exact h.answer
    · rename_i hroom
      obtain ⟨hitems, hwords⟩ := State.room_of_lacksForPosted hroom
      exact State.KeepsBounds.answer (h.setQueue (BranchStock.Fits.append hitems (fun _ => hwords)))

theorem State.KeepsBounds.refuseDecode {k : MemKind} {q : MemoryRequest} {a : Address} {c : FaultCauses} {st : CplStatus}
    {x : Option BranchId} {w : Option WindowId} (h : s.KeepsBounds t) : s.KeepsBounds (t.refuseDecode k q a c st x w) := by
  simp only [State.refuseDecode]
  split <;> exact h.handFault.answer

theorem State.KeepsBounds.decodeAt {k : MemKind} {q : MemoryRequest} {a : Address} {i : WindowId} (h : s.KeepsBounds t) :
    s.KeepsBounds (t.decodeAt k q a i) := by
  simp only [State.decodeAt]
  split
  · exact h.refuseDecode
  · split
    · exact h.answer
    · exact h.takeIn

theorem State.KeepsBounds.decodeNew {k : MemKind} {q : MemoryRequest} {a : Address} (h : s.KeepsBounds t) :
    s.KeepsBounds (t.decodeNew k q a) := by
  unfold State.decodeNew
  split
  · exact h.answer
  · split
    · exact h.refuseDecode
    · split
      · split
        · exact h.refuseDecode
        · exact h.decodeAt
      · exact h.decodeAt

theorem State.KeepsBounds.answerRepeat {l : LiveEntry} (h : s.KeepsBounds t) : s.KeepsBounds (t.answerRepeat n l) := by
  unfold State.answerRepeat
  split
  · split <;> exact h.setEntry.answer
  · exact h.answer

theorem State.KeepsBounds.matchEntry {l : LiveEntry} {k : NpKind} {q : MemoryRequest} {a : Address} (h : s.KeepsBounds t) :
    s.KeepsBounds (t.matchEntry n l k q a) := by
  unfold State.matchEntry
  split
  · exact h.answer
  · split
    · exact h.answerRepeat
    · exact h.handFault.answer

theorem State.KeepsBounds.decodeNonPosted {k : NpKind} {q : MemoryRequest} {a : Address} (h : s.KeepsBounds t) :
    s.KeepsBounds (t.decodeNonPosted k q a) := by
  unfold State.decodeNonPosted
  split
  · exact h.decodeNew
  · split
    · exact h.decodeNew
    · exact h.matchEntry

theorem State.KeepsBounds.decodeMemory {k : MemKind} {q : MemoryRequest} (h : s.KeepsBounds t) : s.KeepsBounds (t.decodeMemory k q) := by
  simp only [State.decodeMemory]
  split
  · exact h.handFault.answer
  · split
    · exact h.handFault.answer
    · split
      · exact h.decodeNonPosted
      · exact h.decodeNew

theorem State.KeepsBounds.abandonEntry {l : LiveEntry} (h : s.KeepsBounds t) : s.KeepsBounds (t.abandonEntry n l) := by
  unfold State.abandonEntry
  split
  · exact h.setEntry.shrinkQueue List.filter_sublist
  · exact h.setEntry.modBranch (.refl _)
  · exact h.setEntry
  · exact h.setEntry
  · exact h

theorem State.KeepsBounds.decodeAbandon {r : Requester} {k : Tag} {extra : Nat} (h : s.KeepsBounds t) :
    s.KeepsBounds (t.decodeAbandon r k extra) := by
  unfold State.decodeAbandon
  split
  · exact h.handFault.answer
  · split
    · exact h.answer
    · split
      · exact h.answer
      · split
        · exact h.answer
        · exact h.abandonEntry.drainEnd.answer

/-! ### Engines -/

theorem State.KeepsBounds.issue {o : Outstanding} {ws : List Word} (h : s.KeepsBounds t) : s.KeepsBounds (t.issue b o ws) :=
  State.KeepsBounds.handToPort (h.modBranch (.refl _))

theorem State.KeepsBounds.issueEntry (h : s.KeepsBounds t) : s.KeepsBounds (t.issueEntry b n) := by
  unfold State.issueEntry
  split
  · exact h.setEntry.issue
  · exact h

/-- R62, R85: the choice removes a reference from the head of the queue, or changes the delivery state of the posted item there. -/
theorem State.KeepsBounds.choose (h : s.KeepsBounds t) : s.KeepsBounds (t.choose b) := by
  unfold State.choose
  split
  · rename_i src hsrc
    obtain ⟨-, -, hcases⟩ := Branch.choice_eq_some hsrc
    rcases hcases with ⟨op, a, -, rfl⟩ | ⟨x, -, rfl⟩ | ⟨p, rest, hq, rfl⟩ | ⟨n, rest, -, hq, rfl⟩
    · exact (h.modBranch (.refl _)).issue
    · exact (h.modBranch (.refl _)).issueEntry
    · have hhead : t.branches[b].queue = .posted p :: t.branches[b].queue.tail := by rw [hq, List.tail_cons]
      exact (h.modBranch (BranchStock.Keeps.replaceHead (v := t.branches[b].stock) (it' := .posted p.issued) hhead rfl)).issue
    · exact (h.shrinkQueue (List.tail_sublist _)).issueEntry
  · exact h

theorem State.KeepsBounds.endEntry {e : Ending} (h : s.KeepsBounds t) : s.KeepsBounds (t.endEntry b n e) := by
  unfold State.endEntry
  split
  · exact h
  · split
    · cases e with
      | later =>
        simp only [State.endIssued]
        split
        · exact h.setEntry.modBranch (.refl _)
        · exact h.setEntry
      | done | refuse | timeout => exact h.setEntry
    · exact h.setEntry
    · exact h

/-- R63 to R66: the posted item leaves the head of the queue, or enters BACKOFF there. -/
theorem State.KeepsBounds.endPosted {e : Ending} (h : s.KeepsBounds t) : s.KeepsBounds (t.endPosted b e) := by
  unfold State.endPosted
  split
  · rename_i p rest hq
    have hleaves : s.KeepsBounds (t.setQueue b rest) := h.shrinkQueue (hq ▸ List.sublist_cons_self _ _)
    cases e with
    | done => exact hleaves
    | later =>
      simp only
      split
      · exact h.modBranch (BranchStock.Keeps.replaceHead (v := t.branches[b].stock) hq rfl)
      · exact hleaves.handFault
    | refuse | timeout => exact hleaves.handFault
  · exact h

theorem State.KeepsBounds.endIssue {o : Outstanding} {e : Ending} (h : s.KeepsBounds t) : s.KeepsBounds (t.endIssue b o e) := by
  have hclear : s.KeepsBounds (t.clearOutstanding b) := h.modBranch (.refl _)
  cases o with
  | entry n => exact hclear.endEntry.drainEnd
  | posted => exact hclear.endPosted.drainEnd
  | probe => exact hclear.modBranch (.refl _)

theorem State.KeepsBounds.takeAnswer {a : TargetAnswer} {count : BitVec 6} {ws : List Word} (h : s.KeepsBounds t) :
    s.KeepsBounds (t.takeAnswer b a count ws) := by
  unfold State.takeAnswer
  split
  · exact h
  · split
    · exact h.endIssue
    · exact h

theorem State.KeepsBounds.takeNotice {count : BitVec 3} {code : BitVec 8} {ws : List Word} (h : s.KeepsBounds t) :
    s.KeepsBounds (t.takeNotice b count code ws) := by
  unfold State.takeNotice
  split
  · exact h
  · split
    · exact h.pushNotice.handToPort
    · exact h.handToPort

theorem State.KeepsBounds.serveTarget {x : TargetPacket} (h : s.KeepsBounds t) : s.KeepsBounds (t.serveTarget b x) := by
  cases x with
  | answer a count ws => exact h.takeAnswer
  | notice count code ws => exact h.takeNotice
  | other kind => exact h

/-! ### Links and timers -/

theorem State.KeepsBounds.transmit (h : s.KeepsBounds t) : s.KeepsBounds t.transmit := by
  have hdeparts : ∀ (u : State) (m : Notice), s.KeepsBounds u → s.KeepsBounds (u.noticeDeparts m) := fun u m hu => by
    unfold State.noticeDeparts
    split
    · exact hu
    · simp only [State.alertDeparts]
      split <;> exact hu
  unfold State.transmit
  split
  · split
    · exact State.KeepsBounds.sendData (p := .trunk) h
    · exact hdeparts _ _ (State.KeepsBounds.sendData (p := .trunk) h)
    · exact h
  · exact h

theorem State.KeepsBounds.comeUp (h : s.KeepsBounds t) : s.KeepsBounds (t.comeUp p) := by
  have hraised : s.KeepsBounds (t.setLink p (t.link p).raised) := h.setLink
  cases p with
  | branch b => exact hraised
  | trunk =>
    simp only [State.comeUp]
    split
    · refine State.KeepsBounds.raise ?_
      exact hraised
    · exact hraised

theorem State.KeepsBounds.upIfTrained (h : s.KeepsBounds t) : s.KeepsBounds (t.upIfTrained p) := by
  unfold State.upIfTrained
  split
  · exact h.comeUp
  · exact h

theorem State.KeepsBounds.receiveData {k : BitVec 8} {ws : List Word} (h : s.KeepsBounds t) : s.KeepsBounds (t.receiveData p k ws) := by
  have hdeliver : s.KeepsBounds (t.deliver p ws) := by
    cases p with
    | trunk => exact h
    | branch b => exact h.modBranch (.refl _)
  simp only [State.receiveData]
  split
  · split
    · exact hdeliver.modLink.emit
    · exact h
  · split <;> exact h.emit

theorem State.KeepsBounds.receiveAck {k : BitVec 8} (h : s.KeepsBounds t) : s.KeepsBounds (t.receiveAck p k) := by
  unfold State.receiveAck
  split
  · exact h
  · cases p with
    | trunk => exact h.modLink
    | branch b => exact h.modLink.sendWaiting

theorem State.KeepsBounds.receive {f : Frame} (h : s.KeepsBounds t) : s.KeepsBounds (t.receive p f) := by
  simp only [State.receive]
  split
  · cases f with
    | data k ws => exact h.modLink.receiveData
    | ack k => exact h.modLink.receiveAck
    | resend k => exact h.modLink.congr rfl
    | train ready => exact h.modLink.linkLost
  · cases f with
    | train ready =>
      simp only
      split
      · exact h.modLink.modLink.upIfTrained
      · exact h.modLink
    | data | ack | resend => exact h.modLink.modLink

theorem State.KeepsBounds.receiveFailure (h : s.KeepsBounds t) : s.KeepsBounds (t.receiveFailure p) := by
  simp only [State.receiveFailure]
  split
  · split
    · exact h.modLink.emit.linkLost
    · exact h.modLink.emit
  · exact h.modLink.modLink

theorem State.KeepsBounds.receiveWords {raw : List Word} (h : s.KeepsBounds t) : s.KeepsBounds (t.receiveWords p raw) := by
  unfold State.receiveWords
  split
  · exact h.receive
  · exact h.receiveFailure

theorem State.KeepsBounds.expireAck (h : s.KeepsBounds t) : s.KeepsBounds (t.expireAck p) := by
  simp only [State.expireAck]
  split
  · split
    · exact h.linkLost
    · exact h.modLink.congr rfl
  · exact h

theorem State.KeepsBounds.sendTrain (h : s.KeepsBounds t) : s.KeepsBounds (t.sendTrain p) := by
  simp only [State.sendTrain]
  split
  · exact h.emit.modLink.upIfTrained
  · exact h

theorem State.KeepsBounds.signalLost (h : s.KeepsBounds t) : s.KeepsBounds (t.signalLost p) := by
  unfold State.signalLost
  split
  · exact h.linkLost
  · exact h

theorem State.KeepsBounds.expireCollection (h : s.KeepsBounds t) : s.KeepsBounds (t.expireCollection n) := by
  unfold State.expireCollection
  split
  · split
    · exact h.setEntry.handFault
    · exact h
  · exact h

theorem State.KeepsBounds.expireDrain (h : s.KeepsBounds t) : s.KeepsBounds t.expireDrain := by
  unfold State.expireDrain
  split
  · exact h.endCommit
  · exact h

/-! ### Management requests -/

theorem State.KeepsBounds.commitAction {action : BitVec 4} (h : s.KeepsBounds t) : s.KeepsBounds (t.commitAction action) := by
  have hdrain : s.KeepsBounds t.startDrain := by
    unfold State.startDrain
    split
    · exact h.commitSwap
    · exact h
  have hcancel : s.KeepsBounds t.cancelDrain := by
    unfold State.cancelDrain
    split
    · exact h.endCommit
    · exact h
  unfold State.commitAction
  split
  · exact h.commitSwap
  · split
    · exact hdrain
    · split
      · exact hcancel
      · split <;> exact h

theorem State.KeepsBounds.applyFlags {hold reset : Bool} (h : s.KeepsBounds t) : s.KeepsBounds (t.applyFlags b hold reset) := by
  have hflags : s.KeepsBounds (t.modBranch b (fun br => br.setFlags hold reset)) := h.modBranch (.refl _)
  have hdown : s.KeepsBounds ((t.modBranch b (fun br => br.setFlags hold reset)).modBranch b Branch.loseLink) :=
    hflags.modBranch (.refl _)
  simp only [State.applyFlags]
  split
  · split
    · exact hdown.branchLoss
    · exact hdown
  · exact hflags

theorem State.KeepsBounds.writeBranch {v : BranchSettings} (h : s.KeepsBounds t) (hv : ¬ v.OutOfRange) :
    s.KeepsBounds (t.writeBranch b v) := by
  rw [State.writeBranch_eq]
  exact (h.modBranch (Branch.keeps_adjust _ hv)).raisesLevel.applyFlags

theorem State.KeepsBounds.writeAlert {ws : List Word} (h : s.KeepsBounds t) : s.KeepsBounds (t.writeAlert ws) := by
  have hack : ∀ u : State, s.KeepsBounds u → s.KeepsBounds (u.acknowledge ws) := fun u hu => by
    have hfold := List.foldlRecOn (motive := s.KeepsBounds) AlertKind.all
      (fun u c => if ackFlag ws c then u.putAlert c (u.alerts.get c).acknowledge else u) hu (fun u hu c _ => by
        split
        · exact hu.putAlert
        · exact hu)
    simp only [State.acknowledge]
    split
    · exact hfold.raise
    · exact hfold
  have hdest : s.KeepsBounds { t with alertDest := alertDestOf ws } := h
  unfold State.writeAlert
  refine List.foldlRecOn (motive := s.KeepsBounds) AlertKind.all _ (hack _ hdest) (fun u hu c _ => ?_)
  simp only [State.enable]
  split <;> exact hu

/-- R135, R98, R148, R70: whatever was before, the bounds hold after a reset. -/
theorem State.keepsBounds_resetAll (c : ResetCause) (x : TrunkPort) : s.KeepsBounds (t.resetAll c x) := by
  have hledger : (t.resetAll c x).ledger = State.reset.ledger := by
    simp only [State.resetAll, State.ledger, State.raise_frame]
    rfl
  rw [State.KeepsBounds, hledger]
  obtain ⟨hbranch, hquota, hcollection, hdrain⟩ := State.reset_settingsLaw
  exact ⟨fun b => ⟨fun _ => State.reset_queueLaw b, fun _ => hbranch b, fun _ _ => State.reset_levelLaw b⟩,
    fun r _ => State.reset_logLaw r, fun r _ => hquota r, fun _ => hcollection, fun _ => hdrain⟩

/-- R148: a requester record is stored with a quota of at most 16. -/
theorem State.KeepsBounds.setSettings {r : Requester} {x : RequesterSettings} (h : s.KeepsBounds t) (hx : x.quota ≤ 16) :
    s.KeepsBounds { t with settings := t.settings.set r x } := by
  refine ⟨h.branch, h.log, fun y hy => ?_, h.collection, h.drain⟩
  have hold : t.settings[y].quota ≤ 16 := h.quota y hy
  show (t.settings.set r x)[y].quota ≤ 16
  rw [getElem_set_fin]
  split
  · exact hx
  · exact hold

/-- R155, R157: the effect of an MW whose record is not a BAD-VALUE. -/
theorem State.KeepsBounds.applyWrite {o : Object} {ws : List Word} (h : s.KeepsBounds t) (hvalue : t.badValue o ws = false) :
    s.KeepsBounds (t.applyWrite o ws) := by
  cases o with
  | commit => exact h.commitAction
  | req r =>
    simp only [State.badValue, Bool.or_eq_false_iff, decide_eq_false_iff_not, BitVec.not_lt] at hvalue
    exact h.setSettings hvalue.1
  | fault r => exact h.setLog (fun hl => hl.take _)
  | branch b => exact h.writeBranch (fun hout => Bool.noConfusion (hvalue.symm.trans (State.badValue_branch.2 hout)))
  | probe b =>
    simp only [State.applyWrite]
    split
    · exact h.modBranch (.refl _)
    · exact h
  | alert => exact h.writeAlert
  | timing =>
    simp only [State.badValue, Bool.or_eq_false_iff, decide_eq_false_iff_not] at hvalue
    exact ⟨h.branch, h.log, h.quota, fun _ => hvalue.1, fun _ => hvalue.2⟩
  | part => exact State.keepsBounds_resetAll _ _
  | winStaged | ident | winActive | entry => exact h

theorem State.KeepsBounds.refuseManagement {kind : BitVec 8} {m : ManagementRequest} {c : FaultCauses} {st : CplStatus}
    (h : s.KeepsBounds t) : s.KeepsBounds (t.refuseManagement kind m c st) := h.handFault.answer

theorem State.KeepsBounds.serveWrite {m : ManagementRequest} (h : s.KeepsBounds t) : s.KeepsBounds (t.serveWrite m) := by
  simp only [State.serveWrite]
  split
  · exact h.refuseManagement
  · split
    · exact h.refuseManagement
    · split
      · exact h.refuseManagement
      · split
        · exact h.refuseManagement
        · rename_i hvalue
          simp only [Bool.or_eq_true, not_or, Bool.not_eq_true] at hvalue
          exact h.answer.applyWrite ((State.badValue_answer _ _ _ _ _ _).trans hvalue.1)

theorem State.KeepsBounds.serveRead {m : ManagementRequest} (h : s.KeepsBounds t) : s.KeepsBounds (t.serveRead m) := by
  unfold State.serveRead
  split
  · exact h.refuseManagement
  · split
    · exact h.refuseManagement
    · rename_i o _
      have hread : s.KeepsBounds (t.afterRead o) := by cases o <;> exact h
      exact hread.answer

/-! ### One command -/

theorem State.KeepsBounds.takeRequest {x : TrunkPacket} {serve : State → State} (h : s.KeepsBounds t)
    (hserve : ∀ u : State, s.KeepsBounds u → s.KeepsBounds (serve u)) : s.KeepsBounds (t.takeRequest x serve) :=
  State.takeRequest_elim (P := s.KeepsBounds) h (fun _ => hserve _ h)

theorem State.KeepsBounds.takeTarget {x : TargetPacket} {serve : State → State} (h : s.KeepsBounds t)
    (hserve : ∀ u : State, s.KeepsBounds u → s.KeepsBounds (serve u)) : s.KeepsBounds (t.takeTarget b x serve) :=
  State.takeTarget_elim (P := s.KeepsBounds) h (hserve _ h) (fun _ => hserve _ (h.modBranch (.refl _)))

end

/-- Every command keeps each bound that holds. -/
theorem exec_keepsBounds {c : Instr} {s t : State} (h : exec c s = .next t) : s.KeepsBounds t := by
  have hquiet : s.KeepsBounds s.quiet := State.KeepsBounds.refl s
  cases c <;> (cases h)
  case read | confirmedWrite | postedWrite | exchange => exact hquiet.takeRequest (fun u hu => hu.decodeMemory)
  case abandon => exact hquiet.takeRequest (fun u hu => hu.decodeAbandon)
  case unknownKind => exact hquiet.takeRequest (fun u hu => hu.handFault.answer)
  case managementRead => exact hquiet.takeRequest (fun u hu => hu.serveRead)
  case managementWrite | winStagedWrite | immediate | drain | cancel | revert | reqWrite | take | branchSettingsWrite | holdFlagSet
      | holdFlagCleared | resetFlagSet | resetFlagCleared | probeRead | probeWrite | alertAcknowledge | alertEnable | timingWrite
      | partReset =>
    exact hquiet.takeRequest (fun u hu => hu.serveWrite)
  case hardReset | powerUp => exact State.keepsBounds_resetAll _ _
  case engineChoice => exact hquiet.choose
  case done | later | refuse => exact hquiet.takeTarget (fun u hu => hu.takeAnswer)
  case bntc => exact hquiet.takeTarget (fun u hu => hu.takeNotice)
  case strayTargetPacket => exact hquiet.takeTarget (fun u hu => hu.serveTarget)
  case responseTimeout =>
    split
    · exact hquiet.endIssue
    · exact hquiet
  case retryIntervalPasses => exact hquiet.modBranch (.refl _)
  case backoffIntervalEnds => exact hquiet.modBranch (Branch.keeps_endBackoff _)
  case collectionTimerExpiry => exact hquiet.expireCollection
  case drainTimerExpiry => exact hquiet.expireDrain
  case transmitChoice => exact hquiet.transmit
  case dataFrame =>
    split
    · exact hquiet.receiveFailure
    · exact hquiet.receive
  case ack | resend | train => exact hquiet.receive
  case trainFrameSend => exact hquiet.sendTrain
  case checkFailure => exact hquiet.receiveWords
  case acknowledgementTimerExpiry => exact hquiet.expireAck
  case signalAbsent => exact hquiet.signalLost

/-- Settles O53: an item joins a queue only when there is room for it and its words; every other event leaves or removes items. -/
theorem queueLawIsKept : Obligations.QueueLawIsKept :=
  kept_of_exec (fun _ _ hs => hs) (fun _ _ _ hs h => (exec_keepsBounds h).queueLaw hs)

/-- Settles O56: a full log only counts, a record out of its range is refused, and each change of a queue or a watermark brings the level
flag with it; a branch loss clears the flag, which is right while no watermark is 0. -/
theorem logSettingsAndLevelLawsAreKept : Obligations.LogSettingsAndLevelLawsAreKept := by
  refine ⟨kept_of_exec (fun _ _ hs => hs) (fun _ _ _ hs h => (exec_keepsBounds h).logLaw hs),
    kept_of_exec (fun _ _ hs => hs) (fun _ _ _ hs h => (exec_keepsBounds h).settingsLaw hs),
    kept_of_exec (fun _ _ hs => hs) (fun _ _ _ hs h => ?_)⟩
  obtain ⟨hsettings, hlevel⟩ := hs
  have hkeeps := exec_keepsBounds h
  exact ⟨hkeeps.settingsLaw hsettings, hkeeps.levelLaw hsettings hlevel⟩

end Sys2Proof.Machine

namespace Sys2Proof.Machine

/-! O32, O33, O39, O40: the reset flag that stops a branch, the start and the end of a probe, and what an engine discards. -/

/-! ### The reset flag that goes from clear to set -/

section
variable {c : Instr} {m w : ObjectWrite} {b : BranchId} {hold reset : Bool} {s u : State}

/-- R98, R155: a row of BRANCH whose values are in range stores the settings of its record with the row's own flags. -/
theorem WritesBranch.exec_eq (hrow : WritesBranch c m w hold reset) (hw : s.Writes w .branch 4 u) (hi : m.index.toNat = b)
    (hrange : ¬ (BranchSettings.ofWords m.words).OutOfRange) :
    exec c s = .next ((u.answerOk m).writeBranch b { BranchSettings.ofWords m.words with hold := hold, reset := reset }) := by
  have ⟨_, _, hlength, _⟩ := hw
  obtain ⟨hexec, hindex, hanswer⟩ := hrow.takes (s := s) (u := u)
  have hrecord := hrow.record hlength
  have hfind : Object.find ObjectClass.branch.code w.index = some (.branch b) := by
    simp only [Object.find, ObjectClass.ofCode_code, hindex, indexIn_eq hi, Option.map_some]
  have hgood : ¬ u.badValue (.branch b) w.words = true := by
    rw [State.badValue_branch, hrecord]
    exact hrange
  have hbusy : u.objectBusy (.branch b) w.words = false := rfl
  rw [hexec, State.takeWrite_of_writes hw rfl hfind rfl, hbusy, Bool.or_false, if_neg hgood, State.applyWrite, hrecord, hanswer]

/-- R79, R170: when the reset flag goes from clear to set, the flags are stored and the link is stopped; on an UP link this is a branch
loss. -/
theorem State.applyFlags_of_reset (h : s.branches[b].reset = false) :
    s.applyFlags b hold true
      = if s.branches[b].link.up = true then (s.modBranch b (fun br => (br.setFlags hold true).loseLink)).branchLoss b
        else s.modBranch b (fun br => (br.setFlags hold true).loseLink) := by
  simp only [State.applyFlags, Branch.carries, h, Bool.not_false, Bool.and_true, if_true, State.modBranch_modBranch]

/-- R79, R80, R98: the settings, the flags and the stopped link are all in place before the loss. -/
theorem State.writeBranch_of_reset {v : BranchSettings} (hv : v.reset = true) (h : s.branches[b].reset = false) :
    s.writeBranch b v
      = if s.branches[b].link.up = true then
          ((s.modBranch b (fun br => (br.Stored v v.hold true).loseLink)).RaisesLevel b s.branches[b].level).branchLoss b
        else (s.modBranch b (fun br => (br.Stored v v.hold true).loseLink)).RaisesLevel b s.branches[b].level := by
  have hadjusted : ((s.modBranch b (Branch.adjust v)).RaisesLevel b s.branches[b].level).branches[b] = s.branches[b].adjust v := by
    rw [State.raisesLevel_get, State.modBranch_get, if_pos rfl]
  have hreset : (s.branches[b].adjust v).reset = false := h
  have hup : (s.branches[b].adjust v).link.up = s.branches[b].link.up := rfl
  rw [State.writeBranch_eq, hv, State.applyFlags_of_reset (by rw [hadjusted, hreset]), hadjusted, hup,
    State.modBranch_raisesLevel (f := fun br => (br.setFlags v.hold true).loseLink) (fun _ => rfl), State.modBranch_modBranch]
  rfl

end

/-- Settles O32: the MW stores the record as every row of BRANCH does, and the flag that goes from clear to set stops the link. -/
theorem resetFlagSetStopsBranch : Obligations.ResetFlagSetStopsBranch := by
  intro c m w b hold s u hrow hw hi hclear v br hrange t
  have hbranches : (u.answerOk m).branches = u.branches := by simp only [State.answerOk, State.answer_frame]
  rw [hrow.exec_eq hw hi hrange, State.writeBranch_of_reset rfl (by rw [hbranches, hclear])]
  simp only [State.modBranch, hbranches]
  rfl

/-! ### The start of a probe -/

theorem Probe.busy_iff {p : Probe} : p.busy = true ↔ (∃ op a, p = .pending op a) ∨ ∃ op a, p = .issued op a := by
  cases p <;> simp [Probe.busy]

/-- R93 (log 3): a row that names the operation changes neither the address nor the data word of the record. -/
theorem probeOfWords_withField {ws : List Word} (v : BitVec 2) (hlength : 0 < ws.length) :
    probeOfWords (withField ws 0 0 2 v)
      = if v = 1 then some (.read, addressOf (wordAt ws 1) (wordAt ws 2))
        else if v = 2 then some (.write (wordAt ws 3), addressOf (wordAt ws 1) (wordAt ws 2))
        else none := by
  simp only [probeOfWords, bits_wordAt_withField ws 0 0 v hlength (by decide), wordAt_withField_of_ne ws 0 1 0 v (by decide),
    wordAt_withField_of_ne ws 0 2 0 v (by decide), wordAt_withField_of_ne ws 0 3 0 v (by decide)]

/-- R93, R155, R156: an MW of PROBE whose record names an operation starts a probe, or is refused for its address or for a probe that is
PENDING or ISSUED. -/
theorem State.takeWrite_of_probe {s u : State} {w : ObjectWrite} {b : BranchId} {op : ProbeOperation} {a : Address}
    (hw : s.Writes w .probe 4 u) (hi : w.index.toNat = b) (hrecord : probeOfWords w.words = some (op, a)) :
    s.takeWrite (objectRequest w .probe)
      = if a.toNat % 4 ≠ 0 ∨ u.branches[b].probe.busy = true then
          u.refuseValue w .probe (decide (a.toNat % 4 ≠ 0)) u.branches[b].probe.busy
        else (u.answerOk w).modBranch b (fun br => br.startProbe op a) := by
  have hfind : Object.find ObjectClass.probe.code w.index = some (.probe b) := by
    simp only [Object.find, ObjectClass.ofCode_code, indexIn_eq hi, Option.map_some]
  have hbad : u.badValue (.probe b) w.words = decide (a.toNat % 4 ≠ 0) := by simp only [State.badValue, hrecord]
  have hbusy : u.objectBusy (.probe b) w.words = u.branches[b].probe.busy := rfl
  rw [State.takeWrite_of_writes hw rfl hfind rfl, hbad, hbusy, State.applyWrite, hrecord]
  simp only [State.refuseValue, Bool.or_eq_true, decide_eq_true_eq]

/-- R93: a probe is PENDING on a branch that is ACTIVE or HELD, and else DONE with UNAVAILABLE. -/
theorem State.startProbe_answerOk (u : State) (m : ObjectWrite) (b : BranchId) (op : ProbeOperation) (a : Address) :
    (u.answerOk m).modBranch b (fun br => br.startProbe op a)
      = { u.answerOk m with
          branches := u.branches.set b
            { u.branches[b] with
              probe :=
                if u.branches[b].link.up = true ∧ u.branches[b].reset = false then .pending op a
                else .done op a .unavailable } } := by
  have hbranches : (u.answerOk m).branches = u.branches := by simp only [State.answerOk, State.answer_frame]
  simp only [State.modBranch, Branch.startProbe, hbranches, Branch.carries_iff]

/-- Settles O33: each row's record names its operation, and the address and the probe decide between the start and the refusal. -/
theorem probeStartsOrIsRefused : Obligations.ProbeStartsOrIsRefused := by
  intro c m w op b s u hrow hw hi a bad busy
  have ⟨_, _, hwords, _⟩ := hw
  obtain ⟨hexec, hindex, hanswer, hrecord⟩ : exec c s = .next (s.takeWrite (objectRequest w .probe)) ∧ w.index = m.index
      ∧ u.answerOk w = u.answerOk m ∧ probeOfWords w.words = some (op, a) := by
    have hlength : ∀ {x : BitVec 2}, (objectWithField m 0 0 2 x).words.length = 4 → 0 < m.words.length := fun h => by
      rw [objectWithField, length_withField] at h
      omega
    rcases hrow with ⟨rfl, rfl, rfl⟩ | ⟨rfl, rfl, rfl⟩ <;>
      exact ⟨rfl, rfl, rfl, probeOfWords_withField _ (hlength hwords)⟩
  have hbusy : u.branches[b].probe.busy = true ↔ busy := Probe.busy_iff
  rw [hexec, State.takeWrite_of_probe hw (by rw [hindex, hi]) hrecord, hanswer, State.startProbe_answerOk]
  refine ⟨fun hgood hidle => ?starts, fun hwrong hrun => ?both, fun hwrong hidle => ?address, fun hgood hrun => ?running⟩
  case starts => rw [if_neg (not_or.2 ⟨hgood, mt hbusy.1 hidle⟩)]
  case both => rw [if_pos (.inl hwrong), hbusy.2 hrun, decide_eq_true hwrong]
  case address => rw [if_pos (.inl hwrong), Bool.of_not_eq_true (mt hbusy.1 hidle), decide_eq_true hwrong]
  case running => rw [if_pos (.inr (hbusy.2 hrun)), hbusy.2 hrun, decide_eq_false hgood]

/-! ### The end of the issue of a probe -/

/-- R91: the words of a DONE to a probe: the word read, or none. -/
theorem State.doneWords_probe {u : State} {b : BranchId} {op : ProbeOperation} {a : Address}
    (h : u.branches[b].probe = .issued op a) : u.doneWords b .probe = if op = .read then 1 else 0 := by
  simp only [State.doneWords, h]
  cases op <;> rfl

/-- R94: a probe that is answered DONE takes the word read, if it reads. -/
theorem Ending.probeResult_done (op : ProbeOperation) (ws : List Word) :
    (Ending.done ws).probeResult op = .ok (if op = .read then ws.head? else none) := by cases op <;> rfl

/-- R89, R91, R94: the outstanding request of the probe ends, and the probe with it. -/
theorem State.endIssue_probe {u : State} {b : BranchId} {op : ProbeOperation} {a : Address} (h : u.branches[b].probe = .issued op a)
    (e : Ending) :
    u.endIssue b .probe e
      = { u.IssueEnded b with
          branches := (u.IssueEnded b).branches.set b { (u.IssueEnded b).branches[b] with probe := .done op a (e.probeResult op) } } := by
  have hprobe : (u.clearOutstanding b).branches[b].probe.finish e = .done op a (e.probeResult op) := by
    rw [State.clearOutstanding_get, h, Probe.finish]
  rw [State.endIssue, State.modBranch, hprobe]
  rfl

/-- Settles O39: the ending of the probe's one issue is its result. -/
theorem probeIssueEndsByAnswerOrTimeout : Obligations.ProbeIssueEndsByAnswerOrTimeout := by
  intro b op a c e s u hends hout hprobe v
  rw [exec_of_endsIssue hends hout (State.doneWords_probe hprobe), State.endIssue_probe hprobe]
  cases e with
  | done ws =>
    rw [Ending.probeResult_done]
  | later | refuse | timeout => rfl

/-! ### What an engine discards -/

/-- R91, R173: a DONE is well formed when its count and its words are those of the issue, a LATER or a REFUSE when it has none. -/
theorem answerWellFormed_iff {x : TargetAnswer} {count : BitVec 6} {ws : List Word} {issued : Nat} :
    answerWellFormed x count ws issued = true
      ↔ (x = .done → count.toNat = issued ∧ ws.length = issued) ∧ (x ≠ .done → count = 0 ∧ ws = []) := by
  cases x <;> simp [answerWellFormed]

/-- R92: an answer while no request is outstanding is discarded. -/
theorem State.takeAnswer_of_idle {u : State} {b : BranchId} (h : u.branches[b].outstanding = none) (x : TargetAnswer)
    (count : BitVec 6) (ws : List Word) : u.takeAnswer b x count ws = u := by rw [State.takeAnswer, h]

/-- R92: an answer that is not well formed is discarded. -/
theorem State.takeAnswer_of_malformed {u : State} {b : BranchId} {o : Outstanding} {x : TargetAnswer} {count : BitVec 6}
    {ws : List Word} (ho : u.branches[b].outstanding = some o) (h : ¬ answerWellFormed x count ws (u.doneWords b o) = true) :
    u.takeAnswer b x count ws = u := by
  rw [State.takeAnswer, ho]
  exact if_neg h

/-- R172 (log 3): STRAY_TARGET_PACKET serves whatever packet can be taken. -/
theorem exec_strayTargetPacket_of_offers {s u : State} {b : BranchId} {p : TargetPacket} (h : s.OffersTarget b p u) :
    exec (.strayTargetPacket b p) s = .next (u.serveTarget b p) :=
  congrArg Host.Outcome.next (State.takeTarget_of_offers (fun t => t.serveTarget b p) h)

/-- R91: the command of an answer takes it when it can be taken. -/
theorem exec_answerCommand_of_offers {s u : State} {b : BranchId} {x : TargetAnswer} {count : BitVec 6} {ws : List Word}
    (h : s.OffersTarget b (.answer x count ws) u) : exec (answerCommand b x count ws) s = .next (u.takeAnswer b x count ws) := by
  cases x <;> exact congrArg Host.Outcome.next (State.takeTarget_of_offers (fun t => t.takeAnswer b _ count ws) h)

/-- Settles O40: the engine takes the packet and does nothing with it; a response timer that does not run does not expire. -/
theorem strayPacketsAreDiscarded : Obligations.StrayPacketsAreDiscarded := by
  refine ⟨fun b kind s u hoff => ?stray, fun b x count ws s u hoff hout => ?answer, fun b s hstopped => ?timer⟩
  case stray => exact exec_strayTargetPacket_of_offers hoff
  case answer =>
    have hdiscard : u.takeAnswer b x count ws = u := by
      rcases hout with hidle | ⟨o, ho, hform⟩
      · exact State.takeAnswer_of_idle hidle x count ws
      · refine State.takeAnswer_of_malformed ho (fun hwell => ?_)
        obtain ⟨hdone, hother⟩ := answerWellFormed_iff.1 hwell
        rcases hform with ⟨hx, hwrong⟩ | ⟨hx, hwrong⟩
        · exact hwrong.elim (absurd (hdone hx).1) (absurd (hdone hx).2)
        · exact hwrong.elim (absurd (hother hx).1) (absurd (hother hx).2)
    rw [exec_answerCommand_of_offers hoff, exec_strayTargetPacket_of_offers hoff, State.serveTarget, hdiscard]
    exact ⟨rfl, rfl⟩
  case timer =>
    simp only [exec, execResponseTimeout]
    rcases hstopped with hout | htimer
    · rw [hout]
      rfl
    · rw [htimer]
      cases s.branches[b].outstanding <;> rfl

end Sys2Proof.Machine

namespace Sys2Proof.Machine

/-! O41 and O44: a BNTC that an engine takes, and the Trunk Port's choice, each by what it finds. -/

/-! ### A card's notice -/

theorem exec_bntc_of_offers {s u : State} {b : BranchId} {count : BitVec 3} {code : BitVec 8} {ws : List Word}
    (h : s.OffersTarget b (.notice count code ws) u) : exec (.bntc b count code ws) s = .next (u.takeNotice b count code ws) :=
  congrArg Host.Outcome.next (State.takeTarget_of_offers (fun t => t.takeNotice b count code ws) h)

section
variable {u : State} {b : BranchId} {count : BitVec 3} {code : BitVec 8} {ws : List Word}

theorem State.takeNotice_of_malformed (h : ¬ (count.toNat ≤ 4 ∧ count.toNat = ws.length)) : u.takeNotice b count code ws = u :=
  if_pos (by omega)

theorem State.takeNotice_of_wellFormed (h : count.toNat ≤ 4 ∧ count.toNat = ws.length) :
    u.takeNotice b count code ws
      = if u.targetCount < 26 then (u.pushNotice (.target b code) u.branches[b].dest ws).handToPort b (.noticeAnswer true)
        else u.handToPort b (.noticeAnswer false) :=
  if_neg (by omega)

end

/-- Settles O41: the engine discards a malformed notice, and the count of target notices decides on a well-formed one. -/
theorem cardNoticeIsTakenOrRefused : Obligations.CardNoticeIsTakenOrRefused := by
  intro b count code ws s u hoff
  rw [exec_bntc_of_offers hoff]
  refine ⟨fun hwell hroom => ?taken, fun hwell hfull => ?refused, fun hmal => ?discarded⟩
  case taken =>
    rw [State.takeNotice_of_wellFormed hwell, if_pos hroom]
    rfl
  case refused => rw [State.takeNotice_of_wellFormed hwell, if_neg (Nat.not_lt.2 hfull)]
  case discarded => rw [State.takeNotice_of_malformed hmal]

/-! ### The departure of a notice -/

/-- R107, R109: the departure takes away the fence that names the notice. -/
theorem Entry.unfence_of_named {b : BranchId} {seq : BitVec 16} {l : LiveEntry} {c : Completion} (hl : l.state = .complete c)
    (hb : l.req.branch = b) (hf : c.fence = some seq) :
    (Entry.live l).unfence b seq = .live { l with state := .complete { c with fence := none } } := by
  simp only [Entry.unfence, hl, hb, hf, and_self, if_true]

/-- R107, R109: the departure leaves every other entry as it was. -/
theorem Entry.unfence_of_not_named {b : BranchId} {seq : BitVec 16} {e : Entry}
    (h : ∀ (l : LiveEntry) (c : Completion), e = .live l → l.state = .complete c → l.req.branch = b → c.fence ≠ some seq) :
    e.unfence b seq = e := by
  cases e with
  | free => rfl
  | live l =>
    cases hl : l.state with
    | complete c =>
      have hother : ¬ (l.req.branch = b ∧ c.fence = some seq) := fun ⟨hb, hf⟩ => h l c rfl hl hb hf
      simp only [Entry.unfence, hl, if_neg hother]
    | queued | issued | waiting | disowned => simp only [Entry.unfence, hl]

section
variable {s : State} {c : AlertKind}

theorem State.noticeDeparts_of_target {n : Notice} {b : BranchId} {code : BitVec 8} (h : n.source = .target b code) :
    s.noticeDeparts n = s.mapEntries (Entry.unfence b n.seq) := by simp only [State.noticeDeparts, h]

theorem State.noticeDeparts_of_alert {n : Notice} (h : n.source = .alert c) : s.noticeDeparts n = s.alertDeparts c := by
  simp only [State.noticeDeparts, h]

/-- R143: the owed notice of a class that is raised and enabled joins the queue. -/
theorem State.alertDeparts_of_owed {d : Word} (h : s.alerts.get c = { enabled := true, raised := some d, marker := .queuedOwed }) :
    s.alertDeparts c = (s.putAlert c { s.alerts.get c with marker := .queued }).pushAlert c d := by
  simp only [State.alertDeparts, h]

/-- R143: every other class is left without a notice in the queue. -/
theorem State.alertDeparts_of_not_owed
    (h : (s.alerts.get c).enabled = false ∨ (s.alerts.get c).raised = none ∨ (s.alerts.get c).marker ≠ .queuedOwed) :
    s.alertDeparts c = s.putAlert c { s.alerts.get c with marker := .none } := by
  simp only [State.alertDeparts]
  split
  · rename_i hmarker hraised henabled
    simp [hmarker, hraised, henabled] at h
  · rfl

/-! ### The trunk's choice -/

theorem LinkPort.canSend_iff {l : LinkPort} : l.canSend = true ↔ l.up = true ∧ l.replay.length < 16 := by
  rw [LinkPort.canSend, Bool.and_eq_true, decide_eq_true_iff, Config.replayFrames]

theorem State.transmit_of_stopped (h : s.trunk.link.canSend = false) : s.transmit = s := by simp [State.transmit, h]

theorem State.transmit_of_answer {x : Answer} {rest : List Answer} (h : s.trunk.link.canSend = true)
    (hx : s.trunk.answers = x :: rest) :
    s.transmit = State.sendData { s with trunk := { s.trunk with answers := rest } } .trunk x.toWords := by
  simp only [State.transmit, h, if_true, hx]

theorem State.transmit_of_notice {n : Notice} {rest : List Notice} (h : s.trunk.link.canSend = true) (hx : s.trunk.answers = [])
    (hn : s.notices = n :: rest) :
    s.transmit = (State.sendData { s with notices := rest } .trunk n.toWords).noticeDeparts n := by
  simp only [State.transmit, h, if_true, hx, hn]

theorem State.transmit_of_nothing (hx : s.trunk.answers = []) (hn : s.notices = []) : s.transmit = s := by
  simp only [State.transmit, hx, hn, ite_self]

end

/-- Settles O44: what departs is the oldest answer, or else the head notice, and its source says what waits on it. -/
theorem trunkSendsAnswersBeforeNotices : Obligations.TrunkSendsAnswersBeforeNotices := by
  refine ⟨fun _ _ _ _ => Entry.unfence_of_named, fun _ _ _ => Entry.unfence_of_not_named,
    fun s => ⟨fun hup hroom => ?room, fun h => ?stopped⟩⟩
  case room =>
    have hsend : s.quiet.trunk.link.canSend = true := LinkPort.canSend_iff.2 ⟨hup, hroom⟩
    refine ⟨fun x rest hx => ?answer, fun n rest b code hx hn hsource => ?target,
      fun n rest c hx hn hsource => ⟨fun d ha => ?owed, fun ha => ?settled⟩, fun hx hn => ?nothing⟩
    all_goals refine congrArg Host.Outcome.next ?_
    case answer =>
      rw [State.transmit_of_answer hsend hx]
      rfl
    case target =>
      rw [State.transmit_of_notice hsend hx hn, State.noticeDeparts_of_target hsource, ← hx]
      rfl
    case owed =>
      rw [State.transmit_of_notice hsend hx hn, State.noticeDeparts_of_alert hsource, ← hx]
      exact State.alertDeparts_of_owed ha
    case settled =>
      rw [State.transmit_of_notice hsend hx hn, State.noticeDeparts_of_alert hsource, ← hx]
      exact State.alertDeparts_of_not_owed ha
    case nothing => exact State.transmit_of_nothing hx hn
  case stopped =>
    have hstop : s.quiet.trunk.link.canSend = false := by
      rw [← Bool.not_eq_true, LinkPort.canSend_iff]
      rcases h with hdown | hfull
      · exact fun ⟨hup, _⟩ => Bool.false_ne_true (hdown.symm.trans hup)
      · exact fun ⟨_, hroom⟩ => Nat.not_lt.2 hfull hroom
    exact congrArg Host.Outcome.next (State.transmit_of_stopped hstop)

end Sys2Proof.Machine

namespace Sys2Proof.Machine

/-! O54: every command keeps the bounds of the queue of notices. The law looks at the notices and the alert classes only; it speaks of each
class by itself, so an operation on one class has to be judged for that class alone. -/

/-! ### The law, class by class -/

/-- R140, R141: the record of an alert class agrees with the number of its notices in the queue. -/
def AlertClass.Agrees (a : AlertClass) (count : Nat) : Prop :=
  count = (if a.marker = .none then 0 else 1) ∧ (a.marker = .queuedOwed → a.raised.isSome = true)

/-- R101: the number of notices of class c in the queue. -/
def State.alertCount (s : State) (c : AlertKind) : Nat := s.notices.countP (Notice.ofClass c)

theorem AlertKind.mem_all (c : AlertKind) : c ∈ AlertKind.all := by cases c <;> decide

theorem State.noticeLaw_iff {s : State} :
    s.NoticeLaw ↔ s.targetCount ≤ 26 ∧ ∀ c, (s.alerts.get c).Agrees (s.alertCount c) :=
  and_congr_right fun _ => ⟨fun h c => h c c.mem_all, fun h c _ => h c⟩

/-- The law for every class but c. -/
structure State.NoticeLawBut (s : State) (c : AlertKind) : Prop where
  targets : s.targetCount ≤ 26
  others : ∀ d, d ≠ c → (s.alerts.get d).Agrees (s.alertCount d)

section
variable {s t : State} {c : AlertKind} {a : AlertClass} {d : Word} {b : BranchId} {n : EntryId}

/-- The law looks at the notices and the alert classes only. -/
theorem State.NoticeLaw.congr (h : s.NoticeLaw) (hn : t.notices = s.notices) (ha : t.alerts = s.alerts) : t.NoticeLaw := by
  rwa [State.NoticeLaw, State.targetCount, hn, ha]

/-! Operations that leave the notices and the alert classes alone keep the law. -/

theorem State.NoticeLaw.answer {r : Requester} {k : Tag} {x : AnswerBody} (h : s.NoticeLaw) : (s.answer r k x).NoticeLaw :=
  h.congr (by simp) (by simp)

theorem State.NoticeLaw.modBranch {f : Branch → Branch} (h : s.NoticeLaw) : (s.modBranch b f).NoticeLaw := h.congr rfl rfl

theorem State.NoticeLaw.setEntry {e : Entry} (h : s.NoticeLaw) : (s.setEntry n e).NoticeLaw := h.congr rfl rfl

theorem State.NoticeLaw.mapEntries {f : Entry → Entry} (h : s.NoticeLaw) : (s.mapEntries f).NoticeLaw := h.congr rfl rfl

theorem State.NoticeLaw.mapBranches {f : Branch → Branch} (h : s.NoticeLaw) : (s.mapBranches f).NoticeLaw := h.congr rfl rfl

theorem State.NoticeLaw.handToPort {x : BranchPacket} (h : s.NoticeLaw) : (s.handToPort b x).NoticeLaw :=
  h.congr (by simp) (by simp)

/-! The law read class by class, and put together again after a change of one class. -/

theorem State.NoticeLaw.targets (h : s.NoticeLaw) : s.targetCount ≤ 26 := h.1

theorem State.NoticeLaw.agrees (h : s.NoticeLaw) (c : AlertKind) : (s.alerts.get c).Agrees (s.alertCount c) :=
  (State.noticeLaw_iff.1 h).2 c

theorem State.NoticeLaw.but (h : s.NoticeLaw) (c : AlertKind) : s.NoticeLawBut c := ⟨h.targets, fun d _ => h.agrees d⟩

/-- A class record is replaced by one that agrees with the queue. -/
theorem State.NoticeLawBut.putAlert (h : s.NoticeLawBut c) (own : a.Agrees (s.alertCount c)) : (s.putAlert c a).NoticeLaw := by
  refine State.noticeLaw_iff.2 ⟨h.targets, fun e => ?_⟩
  rw [State.putAlert_alerts]
  by_cases hec : e = c
  · subst hec
    rwa [Alerts.get_put_self]
  · rw [Alerts.get_put_of_ne _ _ _ _ (Ne.symm hec)]
    exact h.others e hec

theorem State.targetCount_pushAlert (s : State) (c : AlertKind) (d : Word) : (s.pushAlert c d).targetCount = s.targetCount := by
  simp [State.targetCount, State.pushAlert, Notice.isTarget]

theorem State.alertCount_pushAlert (s : State) (c e : AlertKind) (d : Word) :
    (s.pushAlert c d).alertCount e = s.alertCount e + if c = e then 1 else 0 := by
  simp [State.alertCount, State.pushAlert, Notice.ofClass, List.countP_singleton]

/-- A class record is replaced, and a notice of its class joins the queue, which makes one more. -/
theorem State.NoticeLawBut.queueAlert (h : s.NoticeLawBut c) (own : a.Agrees (s.alertCount c + 1)) :
    ((s.putAlert c a).pushAlert c d).NoticeLaw := by
  refine State.noticeLaw_iff.2 ⟨(State.targetCount_pushAlert _ c d).trans_le h.targets, fun e => ?_⟩
  rw [State.alertCount_pushAlert]
  show ((s.alerts.put c a).get e).Agrees (s.alertCount e + _)
  by_cases hec : e = c
  · subst hec
    simpa using own
  · simpa [Alerts.get_put_of_ne _ _ _ _ (Ne.symm hec), Ne.symm hec] using h.others e hec

/-! ### Raises, acknowledgements, enables -/

/-- R141: a raise queues a notice where the marker is NONE, and owes one where it is QUEUED. -/
theorem State.NoticeLaw.raise (h : s.NoticeLaw) : (s.raise c d).NoticeLaw := by
  have own := h.agrees c
  simp only [State.raise]
  split
  · exact h
  · split
    · rename_i hmarker
      exact (h.but c).queueAlert (by simpa [AlertClass.Agrees, hmarker] using own)
    · rename_i hmarker
      exact (h.but c).putAlert (by simpa [AlertClass.Agrees, hmarker] using own)
    · exact (h.but c).putAlert ⟨own.1, fun _ => rfl⟩

/-- R142: a class that is acknowledged owes no notice. -/
theorem AlertClass.Agrees.acknowledge {count : Nat} (h : a.Agrees count) : a.acknowledge.Agrees count := by
  unfold AlertClass.acknowledge
  split
  · by_cases hmarker : a.marker = .queuedOwed <;> simpa [AlertClass.Agrees, hmarker] using h.1
  · exact h

theorem State.NoticeLaw.acknowledge {ws : List Word} (h : s.NoticeLaw) : (s.acknowledge ws).NoticeLaw := by
  have hfold := List.foldlRecOn (motive := State.NoticeLaw) AlertKind.all
    (fun u c => if ackFlag ws c then u.putAlert c (u.alerts.get c).acknowledge else u) h (fun u hu c _ => by
      split
      · exact (hu.but c).putAlert (hu.agrees c).acknowledge
      · exact hu)
  simp only [State.acknowledge]
  split
  · exact hfold.raise
  · exact hfold

/-- R144: a class that is enabled queues its notice only where its marker is NONE. -/
theorem State.NoticeLaw.enable {flag : Bool} (h : s.NoticeLaw) : (s.enable c flag).NoticeLaw := by
  have own := h.agrees c
  simp only [State.enable]
  split
  · rename_i hmarker
    exact (h.but c).queueAlert (by simpa [AlertClass.Agrees, hmarker] using own)
  · exact (h.but c).putAlert own

theorem State.NoticeLaw.writeAlert {ws : List Word} (h : s.NoticeLaw) : (s.writeAlert ws).NoticeLaw := by
  have hdest : State.NoticeLaw { s with alertDest := alertDestOf ws } := h.congr rfl rfl
  unfold State.writeAlert
  exact List.foldlRecOn (motive := State.NoticeLaw) AlertKind.all _ hdest.acknowledge (fun u hu c _ => hu.enable)

/-! ### Notices that join and leave the queue -/

/-- R103: a target notice joins a queue that holds fewer than 26. -/
theorem State.NoticeLaw.pushTarget {b : BranchId} {code : BitVec 8} {dest : Requester} {ws : List Word} (h : s.NoticeLaw)
    (room : s.targetCount < 26) : (s.pushNotice (.target b code) dest ws).NoticeLaw := by
  refine State.noticeLaw_iff.2 ⟨?_, fun c => ?_⟩
  · have htargets : (s.pushNotice (.target b code) dest ws).targetCount = s.targetCount + 1 := by
      simp [State.targetCount, Notice.isTarget]
    omega
  · have halerts : (s.pushNotice (.target b code) dest ws).alertCount c = s.alertCount c := by
      simp [State.alertCount, Notice.ofClass]
    rw [halerts]
    exact h.agrees c

/-- R143: the departure of the one notice of class c: the owed notice takes its place, or the marker becomes NONE. -/
theorem State.NoticeLawBut.alertDeparts (h : s.NoticeLawBut c) (hzero : s.alertCount c = 0) : (s.alertDeparts c).NoticeLaw := by
  simp only [State.alertDeparts]
  split
  · exact h.queueAlert (by simp [AlertClass.Agrees, hzero])
  · exact h.putAlert (by simp [AlertClass.Agrees, hzero])

/-- R106, R107: the head notice leaves the queue. -/
theorem State.NoticeLaw.noticeDeparts {n : Notice} {rest : List Notice} (h : s.NoticeLaw) (head : s.notices = n :: rest)
    (hn : t.notices = rest) (ha : t.alerts = s.alerts) : (t.noticeDeparts n).NoticeLaw := by
  have htargets : s.targetCount = t.targetCount + if n.isTarget = true then 1 else 0 := by
    rw [State.targetCount, head, List.countP_cons, ← hn]
    rfl
  have halerts : ∀ c, s.alertCount c = t.alertCount c + if n.ofClass c = true then 1 else 0 := fun c => by
    rw [State.alertCount, head, List.countP_cons, ← hn]
    rfl
  have hle := h.targets
  cases hsource : n.source with
  | target b code =>
    have hlaw : t.NoticeLaw := State.noticeLaw_iff.2 ⟨by omega, fun c => by
      simpa [halerts c, Notice.ofClass, hsource, ha] using h.agrees c⟩
    rw [State.noticeDeparts_of_target hsource]
    exact hlaw.mapEntries
  | alert c =>
    have hbut : t.NoticeLawBut c := ⟨by omega, fun d hd => by
      simpa [halerts d, Notice.ofClass, hsource, ha, Ne.symm hd] using h.agrees d⟩
    have hzero : t.alertCount c = 0 := by
      have hcount := (h.agrees c).1
      simp only [halerts c, Notice.ofClass, hsource, beq_self_eq_true, if_true] at hcount
      split at hcount <;> omega
    rw [State.noticeDeparts_of_alert hsource]
    exact hbut.alertDeparts hzero

theorem State.NoticeLaw.transmit (h : s.NoticeLaw) : s.transmit.NoticeLaw := by
  unfold State.transmit
  split
  · split
    · exact h.congr (by simp) (by simp)
    · rename_i hhead
      exact h.noticeDeparts hhead (by simp) (by simp)
    · exact h
  · exact h

/-! ### Faults, level flags, commits -/

theorem State.NoticeLaw.handFault {f : FaultEntry} (h : s.NoticeLaw) : (s.handFault f).NoticeLaw := by
  have hlog : State.NoticeLaw { s with logs := s.logs.set f.requester (s.logs[f.requester].add f) } := h.congr rfl rfl
  unfold State.handFault
  cases f.causes.ownClass with
  | none =>
    simp only
    split
    · exact hlog.raise
    · exact hlog
  | some c =>
    simp only
    split
    · exact hlog.raise.raise
    · exact hlog.raise

theorem State.NoticeLaw.endCommit {o : CommitOutcome} (h : s.NoticeLaw) : (s.endCommit o).NoticeLaw := by
  have hidle : State.NoticeLaw { s with controller := .idle, outcome := o } := h.congr rfl rfl
  exact hidle.raise

theorem State.NoticeLaw.commitSwap (h : s.NoticeLaw) : s.commitSwap.NoticeLaw := by
  have hswap : s.swap.NoticeLaw := h.congr rfl rfl
  exact hswap.endCommit

theorem State.NoticeLaw.drainEnd (h : s.NoticeLaw) : s.drainEnd.NoticeLaw := by
  unfold State.drainEnd
  split
  · exact h.commitSwap
  · exact h

theorem State.NoticeLaw.expireDrain (h : s.NoticeLaw) : s.expireDrain.NoticeLaw := by
  unfold State.expireDrain
  split
  · exact h.endCommit
  · exact h

theorem State.NoticeLaw.syncLevel (h : s.NoticeLaw) : (s.syncLevel b).NoticeLaw := by
  simp only [State.syncLevel]
  split
  · exact h.modBranch.raise
  · exact h.modBranch

theorem State.NoticeLaw.setQueue {q : List Item} (h : s.NoticeLaw) : (s.setQueue b q).NoticeLaw := h.modBranch.syncLevel

theorem State.NoticeLaw.reportLost {q : List Item} (h : s.NoticeLaw) : (s.reportLost b q).NoticeLaw := by
  induction q generalizing s with
  | nil => exact h
  | cons it rest ih =>
    cases it with
    | posted p => exact ih h.handFault
    | ref n => exact ih h

/-! ### Losses -/

theorem State.NoticeLaw.branchLoss (h : s.NoticeLaw) : (s.branchLoss b).NoticeLaw :=
  h.mapEntries.modBranch.reportLost.drainEnd

theorem State.NoticeLaw.trunkLoss (h : s.NoticeLaw) : s.trunkLoss.NoticeLaw := h.mapEntries.mapBranches.drainEnd

theorem State.NoticeLaw.linkLost {p : Port} (h : s.NoticeLaw) : (s.linkLost p).NoticeLaw := by
  cases p with
  | trunk =>
    have hdown : State.NoticeLaw { s with trunk := { link := s.trunk.link.lose, answers := [], delivered := [], lost := true } } :=
      h.congr rfl rfl
    exact hdown.trunkLoss
  | branch b =>
    simp only [State.linkLost]
    split
    · exact h.modBranch.branchLoss
    · exact h.modBranch

/-! ### Requests -/

theorem State.NoticeLaw.answerRepeat {l : LiveEntry} (h : s.NoticeLaw) : (s.answerRepeat n l).NoticeLaw := by
  unfold State.answerRepeat
  split
  · split <;> exact h.setEntry.answer
  · exact h.answer

theorem State.NoticeLaw.accept {k : NpKind} {q : MemoryRequest} {x : Address} (h : s.NoticeLaw) :
    (s.accept n k q x b).NoticeLaw := by
  have hfresh : State.NoticeLaw { s with fresh := s.fresh + 1 } := h.congr rfl rfl
  exact hfresh.setEntry.setQueue.answer

theorem State.NoticeLaw.decodeMemory {k : MemKind} {q : MemoryRequest} (h : s.NoticeLaw) : (s.decodeMemory k q).NoticeLaw := by
  have hdecodes := s.decodes_decodeMemory k q
  generalize s.decodeMemory k q = t at hdecodes ⊢
  cases hdecodes with
  | answers body => exact h.answer
  | faults f body => exact h.handFault.answer
  | repeats n l _ => exact h.answerRepeat
  | accepts n k x b => exact h.accept
  | queues x b => exact h.setQueue.answer

theorem State.NoticeLaw.abandonEntry {l : LiveEntry} (h : s.NoticeLaw) : (s.abandonEntry n l).NoticeLaw := by
  unfold State.abandonEntry
  split
  · exact h.setEntry.setQueue
  · exact h.setEntry.modBranch
  · exact h.setEntry
  · exact h.setEntry
  · exact h

theorem State.NoticeLaw.decodeAbandon {r : Requester} {k : Tag} {extra : Nat} (h : s.NoticeLaw) :
    (s.decodeAbandon r k extra).NoticeLaw := by
  unfold State.decodeAbandon
  split
  · exact h.handFault.answer
  · split
    · exact h.answer
    · split
      · exact h.answer
      · split
        · exact h.answer
        · exact h.abandonEntry.drainEnd.answer

/-! ### Engines -/

theorem State.NoticeLaw.issue {o : Outstanding} {ws : List Word} (h : s.NoticeLaw) : (s.issue b o ws).NoticeLaw :=
  h.modBranch.handToPort

theorem State.NoticeLaw.issueEntry (h : s.NoticeLaw) : (s.issueEntry b n).NoticeLaw := by
  unfold State.issueEntry
  split
  · exact h.setEntry.issue
  · exact h

theorem State.NoticeLaw.choose (h : s.NoticeLaw) : (s.choose b).NoticeLaw := by
  unfold State.choose
  split
  · rename_i src _
    cases src with
    | probe op x => exact h.modBranch.issue
    | slot n => exact h.modBranch.issueEntry
    | headRef n => exact h.setQueue.issueEntry
    | headPosted p => exact h.modBranch.issue
  · exact h

theorem State.NoticeLaw.endEntry {e : Ending} (h : s.NoticeLaw) : (s.endEntry b n e).NoticeLaw := by
  unfold State.endEntry
  split
  · exact h
  · split
    · cases e with
      | later =>
        simp only [State.endIssued]
        split
        · exact h.setEntry.modBranch
        · exact h.setEntry
      | done | refuse | timeout => exact h.setEntry
    · exact h.setEntry
    · exact h

theorem State.NoticeLaw.dropHead {p : PostedItem} {rest : List Item} {r : DropReason} (h : s.NoticeLaw) :
    (s.dropHead b p rest r).NoticeLaw := h.setQueue.handFault

theorem State.NoticeLaw.endPosted {e : Ending} (h : s.NoticeLaw) : (s.endPosted b e).NoticeLaw := by
  unfold State.endPosted
  split
  · cases e with
    | done => exact h.setQueue
    | later =>
      simp only
      split
      · exact h.modBranch
      · exact h.dropHead
    | refuse | timeout => exact h.dropHead
  · exact h

theorem State.NoticeLaw.endIssue {o : Outstanding} {e : Ending} (h : s.NoticeLaw) : (s.endIssue b o e).NoticeLaw := by
  have hclear : (s.clearOutstanding b).NoticeLaw := h.modBranch
  cases o with
  | entry n => exact hclear.endEntry.drainEnd
  | posted => exact hclear.endPosted.drainEnd
  | probe => exact hclear.modBranch

theorem State.NoticeLaw.takeAnswer {x : TargetAnswer} {count : BitVec 6} {ws : List Word} (h : s.NoticeLaw) :
    (s.takeAnswer b x count ws).NoticeLaw := by
  unfold State.takeAnswer
  split
  · exact h
  · split
    · exact h.endIssue
    · exact h

theorem State.NoticeLaw.takeNotice {count : BitVec 3} {code : BitVec 8} {ws : List Word} (h : s.NoticeLaw) :
    (s.takeNotice b count code ws).NoticeLaw := by
  unfold State.takeNotice
  split
  · exact h
  · split
    · rename_i hroom
      exact (h.pushTarget hroom).handToPort
    · exact h.handToPort

theorem State.NoticeLaw.serveTarget {x : TargetPacket} (h : s.NoticeLaw) : (s.serveTarget b x).NoticeLaw := by
  cases x with
  | answer x count ws => exact h.takeAnswer
  | notice count code ws => exact h.takeNotice
  | other kind => exact h

theorem State.NoticeLaw.expireCollection (h : s.NoticeLaw) : (s.expireCollection n).NoticeLaw := by
  unfold State.expireCollection
  split
  · split
    · exact h.setEntry.handFault
    · exact h
  · exact h

/-! ### Links -/

variable {p : Port}

theorem State.NoticeLaw.emit {f : Frame} (h : s.NoticeLaw) : (s.emit p f).NoticeLaw := h.congr rfl rfl

theorem State.NoticeLaw.setLink {l : LinkPort} (h : s.NoticeLaw) : (s.setLink p l).NoticeLaw := h.congr (by simp) (by simp)

theorem State.NoticeLaw.modLink {f : LinkPort → LinkPort} (h : s.NoticeLaw) : (s.modLink p f).NoticeLaw := h.setLink

theorem State.NoticeLaw.comeUp (h : s.NoticeLaw) : (s.comeUp p).NoticeLaw := by
  have hraised : (s.setLink p (s.link p).raised).NoticeLaw := h.setLink
  cases p with
  | branch b => exact hraised
  | trunk =>
    simp only [State.comeUp]
    split
    · refine State.NoticeLaw.raise ?_
      exact hraised.congr rfl rfl
    · exact hraised

theorem State.NoticeLaw.upIfTrained (h : s.NoticeLaw) : (s.upIfTrained p).NoticeLaw := by
  unfold State.upIfTrained
  split
  · exact h.comeUp
  · exact h

theorem State.NoticeLaw.receiveData {k : BitVec 8} {ws : List Word} (h : s.NoticeLaw) : (s.receiveData p k ws).NoticeLaw := by
  have hdeliver : (s.deliver p ws).NoticeLaw := by cases p <;> exact h.congr rfl rfl
  simp only [State.receiveData]
  split
  · split
    · exact hdeliver.modLink.emit
    · exact h
  · split <;> exact h.emit

theorem State.NoticeLaw.receiveAck {k : BitVec 8} (h : s.NoticeLaw) : (s.receiveAck p k).NoticeLaw := by
  have hroom : ∀ u : State, u.NoticeLaw → (u.roomFreed p).NoticeLaw := fun u hu => by
    cases p with
    | trunk => exact hu
    | branch b => exact hu.congr (by simp [State.roomFreed]) (by simp [State.roomFreed])
  unfold State.receiveAck
  split
  · exact h
  · exact hroom _ h.modLink

theorem State.NoticeLaw.receive {f : Frame} (h : s.NoticeLaw) : (s.receive p f).NoticeLaw := by
  simp only [State.receive]
  split
  · cases f with
    | data k ws => exact h.modLink.receiveData
    | ack k => exact h.modLink.receiveAck
    | resend k => exact h.modLink.congr rfl rfl
    | train ready => exact h.modLink.linkLost
  · cases f with
    | train ready =>
      simp only
      split
      · exact h.modLink.modLink.upIfTrained
      · exact h.modLink
    | data | ack | resend => exact h.modLink.modLink

theorem State.NoticeLaw.receiveFailure (h : s.NoticeLaw) : (s.receiveFailure p).NoticeLaw := by
  simp only [State.receiveFailure]
  split
  · split
    · exact h.modLink.emit.linkLost
    · exact h.modLink.emit
  · exact h.modLink.modLink

theorem State.NoticeLaw.receiveWords {raw : List Word} (h : s.NoticeLaw) : (s.receiveWords p raw).NoticeLaw := by
  unfold State.receiveWords
  split
  · exact h.receive
  · exact h.receiveFailure

theorem State.NoticeLaw.expireAck (h : s.NoticeLaw) : (s.expireAck p).NoticeLaw := by
  simp only [State.expireAck]
  split
  · split
    · exact h.linkLost
    · exact h.modLink.congr rfl rfl
  · exact h

theorem State.NoticeLaw.sendTrain (h : s.NoticeLaw) : (s.sendTrain p).NoticeLaw := by
  simp only [State.sendTrain]
  split
  · exact h.emit.modLink.upIfTrained
  · exact h

theorem State.NoticeLaw.signalLost (h : s.NoticeLaw) : (s.signalLost p).NoticeLaw := by
  unfold State.signalLost
  split
  · exact h.linkLost
  · exact h

/-! ### Management requests -/

theorem State.NoticeLaw.commitAction {action : BitVec 4} (h : s.NoticeLaw) : (s.commitAction action).NoticeLaw := by
  have hdrain : s.startDrain.NoticeLaw := by
    unfold State.startDrain
    split
    · exact h.commitSwap
    · exact h.congr rfl rfl
  have hcancel : s.cancelDrain.NoticeLaw := by
    unfold State.cancelDrain
    split
    · exact h.endCommit
    · exact h
  unfold State.commitAction
  split
  · exact h.commitSwap
  · split
    · exact hdrain
    · split
      · exact hcancel
      · split <;> exact h.congr rfl rfl

theorem State.NoticeLaw.applyFlags {hold reset : Bool} (h : s.NoticeLaw) : (s.applyFlags b hold reset).NoticeLaw := by
  simp only [State.applyFlags]
  split
  · split
    · exact h.modBranch.modBranch.branchLoss
    · exact h.modBranch.modBranch
  · exact h.modBranch

theorem State.NoticeLaw.writeBranch {v : BranchSettings} (h : s.NoticeLaw) : (s.writeBranch b v).NoticeLaw := by
  simp only [State.writeBranch]
  split
  · exact h.modBranch.applyFlags
  · exact h.modBranch.syncLevel.applyFlags

/-- R112, R140, R162: whatever was before, a reset empties the queue and makes every marker NONE, and then raises RESTART. -/
theorem State.noticeLaw_resetAll (s : State) (cause : ResetCause) (x : TrunkPort) : (s.resetAll cause x).NoticeLaw := by
  have hcleared : State.cleared.NoticeLaw := by
    refine ⟨by decide, fun c _ => ?_⟩
    cases c <;> exact ⟨rfl, fun h => by cases h⟩
  refine State.NoticeLaw.raise ?_
  exact hcleared.congr rfl rfl

theorem State.NoticeLaw.applyWrite {o : Object} {ws : List Word} (h : s.NoticeLaw) : (s.applyWrite o ws).NoticeLaw := by
  cases o with
  | commit => exact h.commitAction
  | branch b => exact h.writeBranch
  | probe b =>
    simp only [State.applyWrite]
    split
    · exact h.modBranch
    · exact h
  | alert => exact h.writeAlert
  | part => exact s.noticeLaw_resetAll _ _
  | winStaged | req | timing | ident | winActive | fault | entry => exact h.congr rfl rfl

theorem State.NoticeLaw.refuseManagement {kind : BitVec 8} {m : ManagementRequest} {x : FaultCauses} {st : CplStatus}
    (h : s.NoticeLaw) : (s.refuseManagement kind m x st).NoticeLaw := h.handFault.answer

theorem State.NoticeLaw.serveWrite {m : ManagementRequest} (h : s.NoticeLaw) : (s.serveWrite m).NoticeLaw := by
  simp only [State.serveWrite]
  split
  · exact h.refuseManagement
  · split
    · exact h.refuseManagement
    · split
      · exact h.refuseManagement
      · split
        · exact h.refuseManagement
        · exact h.answer.applyWrite

theorem State.NoticeLaw.serveRead {m : ManagementRequest} (h : s.NoticeLaw) : (s.serveRead m).NoticeLaw := by
  unfold State.serveRead
  split
  · exact h.refuseManagement
  · split
    · exact h.refuseManagement
    · rename_i o _
      have hread : (s.afterRead o).NoticeLaw := by cases o <;> exact h.congr rfl rfl
      exact hread.answer

/-! ### One command -/

theorem State.NoticeLaw.takeRequest {x : TrunkPacket} {serve : State → State} (h : s.NoticeLaw)
    (hserve : ∀ u : State, u.NoticeLaw → (serve u).NoticeLaw) : (s.takeRequest x serve).NoticeLaw :=
  State.takeRequest_elim (P := State.NoticeLaw) h (fun _ => hserve _ (h.congr rfl rfl))

theorem State.NoticeLaw.takeTarget {x : TargetPacket} {serve : State → State} (h : s.NoticeLaw)
    (hserve : ∀ u : State, u.NoticeLaw → (serve u).NoticeLaw) : (s.takeTarget b x serve).NoticeLaw :=
  State.takeTarget_elim (P := State.NoticeLaw) h (hserve _ h) (fun _ => hserve _ h.modBranch)

end

/-- Every command keeps the law. -/
theorem exec_noticeLaw {c : Instr} {s t : State} (hs : s.NoticeLaw) (h : exec c s = .next t) : t.NoticeLaw := by
  have hquiet : s.quiet.NoticeLaw := hs.congr rfl rfl
  cases c <;> (cases h)
  case read | confirmedWrite | postedWrite | exchange => exact hquiet.takeRequest (fun u hu => hu.decodeMemory)
  case abandon => exact hquiet.takeRequest (fun u hu => hu.decodeAbandon)
  case unknownKind => exact hquiet.takeRequest (fun u hu => hu.handFault.answer)
  case managementRead => exact hquiet.takeRequest (fun u hu => hu.serveRead)
  case managementWrite | winStagedWrite | immediate | drain | cancel | revert | reqWrite | take | branchSettingsWrite | holdFlagSet
      | holdFlagCleared | resetFlagSet | resetFlagCleared | probeRead | probeWrite | alertAcknowledge | alertEnable | timingWrite
      | partReset =>
    exact hquiet.takeRequest (fun u hu => hu.serveWrite)
  case hardReset | powerUp => exact State.noticeLaw_resetAll _ _ _
  case engineChoice => exact hquiet.choose
  case done | later | refuse => exact hquiet.takeTarget (fun u hu => hu.takeAnswer)
  case bntc => exact hquiet.takeTarget (fun u hu => hu.takeNotice)
  case strayTargetPacket => exact hquiet.takeTarget (fun u hu => hu.serveTarget)
  case responseTimeout =>
    split
    · exact hquiet.endIssue
    · exact hquiet
  case retryIntervalPasses | backoffIntervalEnds => exact hquiet.modBranch
  case collectionTimerExpiry => exact hquiet.expireCollection
  case drainTimerExpiry => exact hquiet.expireDrain
  case transmitChoice => exact hquiet.transmit
  case dataFrame =>
    split
    · exact hquiet.receiveFailure
    · exact hquiet.receive
  case ack | resend | train => exact hquiet.receive
  case trainFrameSend => exact hquiet.sendTrain
  case checkFailure => exact hquiet.receiveWords
  case acknowledgementTimerExpiry => exact hquiet.expireAck
  case signalAbsent => exact hquiet.signalLost

/-! ### The places of the queue -/

/-- R100: every notice is a target notice or the notice of one alert class. -/
theorem length_notices (ns : List Notice) :
    ns.length = ns.countP Notice.isTarget + (AlertKind.all.map (fun c => ns.countP (Notice.ofClass c))).sum := by
  induction ns with
  | nil => rfl
  | cons n rest ih =>
    have hone : 1 = (if n.isTarget = true then 1 else 0)
        + (AlertKind.all.map (fun c => if n.ofClass c = true then 1 else 0)).sum := by
      unfold Notice.isTarget Notice.ofClass
      cases n.source with
      | target b code => rfl
      | alert c => cases c <;> rfl
    simp only [AlertKind.all, List.map_cons, List.map_nil, List.sum_cons, List.sum_nil, List.length_cons, List.countP_cons]
      at ih hone ⊢
    omega

/-- R140: the queue holds at most one notice of a class. -/
theorem State.NoticeLaw.alertCount_le_one {s : State} (h : s.NoticeLaw) (c : AlertKind) : s.alertCount c ≤ 1 := by
  rw [(h.agrees c).1]
  split <;> decide

/-- R105: 26 places for the target notices and one for each of the six alert classes are enough. -/
theorem State.NoticeLaw.length_le {s : State} (h : s.NoticeLaw) : s.notices.length ≤ 32 := by
  have halerts : (AlertKind.all.map s.alertCount).sum ≤ 6 := by
    have hle := List.sum_le_card_nsmul (AlertKind.all.map s.alertCount) 1 (by simpa using fun c _ => h.alertCount_le_one c)
    simpa [AlertKind.all] using hle
  calc s.notices.length = s.targetCount + (AlertKind.all.map s.alertCount).sum := length_notices _
    _ ≤ 26 + 6 := Nat.add_le_add h.targets halerts

/-- Settles O54: a target notice joins only below 26, an alert notice only where its marker is NONE or its class's one notice departs; and
26 target notices with one notice of each of six classes are 32. -/
theorem noticeLawIsKept : Obligations.NoticeLawIsKept :=
  ⟨kept_of_exec (fun _ _ hs => hs) (fun _ _ _ => exec_noticeLaw), fun _ h => h.length_le⟩

end Sys2Proof.Machine

namespace Sys2Proof.Machine

/-! O26, O27, O28, O43, O8: the commit controller. An MW of COMMIT comes to its action unless its value group refuses it; a commit that
ends raises COMMIT with its outcome; the drain timer and the end of the last work end a drain. -/

/-! ### The drain condition and the end of a commit -/

/-- R121: the entries that the drain condition does not count are the FREE and the COMPLETE ones. -/
theorem Entry.place_isSome_eq_false_iff {e : Entry} :
    e.place.isSome = false ↔ ∀ l, e = .live l → ∃ c, l.state = .complete c := by
  cases e with
  | free => simp [Entry.place]
  | live l => cases hl : l.state <;> simp [Entry.place, hl]

theorem Item.isPosted_eq_false_iff {it : Item} : it.isPosted = false ↔ ∃ n, it = .ref n := by
  cases it <;> simp [Item.isPosted]

theorem State.drained_eq_true_iff {s : State} :
    s.drained = true
      ↔ (∀ (n : EntryId) (l : LiveEntry), s.entries[n] = .live l → ∃ c, l.state = .complete c)
        ∧ ∀ (b : BranchId), ∀ it ∈ s.branches[b].queue, ∃ n, it = .ref n := by
  have hcounts : s.drained = true ↔ ¬ s.work.Counts := by rw [← State.drained_eq_false_iff, Bool.not_eq_false]
  rw [hcounts, Work.Counts]
  simp only [not_or, not_exists, not_and, Bool.not_eq_true, Item.isPosted_eq_false_iff, Entry.place_isSome_eq_false_iff]
  rfl

/-- R118, R131: a swap that ends the commit. -/
theorem State.commitSwap_eq (s : State) :
    s.commitSwap
      = ({ s with active := s.staged, generation := s.generation + 1, controller := .idle, outcome := .done } : State).raise .commit
          1 := rfl

/-- R118, R119, R131: a swap in IDLE, where no timer runs. -/
theorem State.commitSwap_of_idle {s : State} (h : s.controller = .idle) :
    s.commitSwap
      = ({ s with active := s.staged, generation := s.generation + 1, outcome := .done } : State).raise .commit 1 := by
  rw [State.commitSwap_eq, ← h]

theorem State.startDrain_of_drained {s : State} (h : s.drained = true) : s.startDrain = s.commitSwap := if_pos h

theorem State.startDrain_of_work {s : State} (h : s.drained = false) :
    s.startDrain = { s with controller := .draining s.drainLimit } := if_neg (Bool.eq_false_iff.1 h)

theorem State.cancelDrain_of_draining {s : State} (h : s.controller ≠ .idle) :
    s.cancelDrain = ({ s with controller := .idle, outcome := .cancelled } : State).raise .commit 3 :=
  if_pos (State.draining_eq_true.2 h)

theorem State.cancelDrain_of_idle {s : State} (h : s.controller = .idle) : s.cancelDrain = s :=
  if_neg (Bool.eq_false_iff.1 (State.draining_eq_false.2 h))

theorem State.expireDrain_of_draining {s : State} (h : s.controller ≠ .idle) :
    s.expireDrain = ({ s with controller := .idle, outcome := .timedOut } : State).raise .commit 2 :=
  if_pos (State.draining_eq_true.2 h)

theorem State.expireDrain_of_idle {s : State} (h : s.controller = .idle) : s.expireDrain = s :=
  if_neg (Bool.eq_false_iff.1 (State.draining_eq_false.2 h))

/-- Settles O8: the drain condition counts exactly the entries and items that stand somewhere in the work, and a drain ends by a swap. -/
theorem drainEndsWhenNoWorkIsLeft : Obligations.DrainEndsWhenNoWorkIsLeft := by
  refine ⟨fun s => State.drained_eq_true_iff, fun s => ?_⟩
  simp only [State.drainEnd, Bool.and_eq_true, State.draining_eq_true, State.commitSwap_eq]

/-- Settles O43: the timer that runs ends the drain, and in IDLE there is none. -/
theorem drainTimerEndsDrain : Obligations.DrainTimerEndsDrain := by
  intro s
  have hexec : exec .drainTimerExpiry s = .next s.quiet.expireDrain := rfl
  rw [hexec]
  refine ⟨fun hdraining => ?ends, fun hidle => ?nothing⟩
  case ends =>
    rw [State.expireDrain_of_draining (s := s.quiet) hdraining]
    rfl
  case nothing =>
    rw [State.expireDrain_of_idle (s := s.quiet) hidle]
    rfl

/-! ### An MW of COMMIT -/

/-- R119 to R125: the actions of COMMIT: IMMEDIATE, DRAIN, CANCEL and REVERT. -/
def commitActions : List (BitVec 4) := [1, 2, 3, 4]

/-- R125: BAD-VALUE applies to exactly the actions that are not listed. -/
theorem State.badValue_commit (s : State) (ws : List Word) :
    s.badValue .commit ws = decide (actionOf ws ∉ commitActions) := by
  have hrange : ∀ a : BitVec 4, (decide (a = 0) || decide (4 < a)) = decide (a ∉ commitActions) := by decide
  exact hrange _

/-- R119, R120, R124, R125: while DRAINING every listed action but CANCEL is OBJECT-BUSY. -/
theorem State.objectBusy_commit {s : State} {ws : List Word} :
    s.objectBusy .commit ws = true ↔ actionOf ws ∈ commitActions ∧ s.controller ≠ .idle ∧ actionOf ws ≠ 3 := by
  have hbusy : ∀ a : BitVec 4, (decide (a = 1) || decide (a = 2) || decide (a = 4)) = decide (a ∈ commitActions ∧ a ≠ 3) := by decide
  rw [State.objectBusy, hbusy, Bool.and_eq_true, State.draining_eq_true, decide_eq_true_eq, and_left_comm]

section
variable {m : ObjectWrite} {s u : State}

/-- R150, R155, R156: an MW of COMMIT that reaches its value group. -/
theorem State.takeWrite_of_commit (hw : s.Writes m .commit 2 u) (hi : m.index = 0) :
    s.takeWrite (objectRequest m .commit)
      = if actionOf m.words ∉ commitActions then u.refuseValue m .commit true false
        else if u.controller ≠ .idle ∧ actionOf m.words ≠ 3 then u.refuseValue m .commit false true
        else (u.answerOk m).commitAction (actionOf m.words) := by
  have hfind : Object.find ObjectClass.commit.code m.index = some .commit := by
    simp only [Object.find, ObjectClass.ofCode_code, hi, if_true]
  rw [State.takeWrite_of_writes hw rfl hfind rfl, State.badValue_commit]
  by_cases hlisted : actionOf m.words ∈ commitActions
  · rw [if_neg (not_not.2 hlisted), decide_eq_false (not_not.2 hlisted), Bool.false_or]
    by_cases hbusy : u.controller ≠ .idle ∧ actionOf m.words ≠ 3
    · rw [if_pos hbusy, State.objectBusy_commit.2 ⟨hlisted, hbusy⟩]
      rfl
    · rw [if_neg hbusy, if_neg (fun h => hbusy (State.objectBusy_commit.1 h).2)]
      rfl
  · have hfree : u.objectBusy .commit m.words = false := Bool.eq_false_iff.2 (fun h => hlisted (State.objectBusy_commit.1 h).1)
    rw [if_pos hlisted, decide_eq_true hlisted, hfree]
    rfl

/-- R119 to R125 (log 3): the MW of a row of COMMIT, whose record holds the row's action v. -/
theorem State.takeWrite_of_action {v : BitVec 4} (hw : s.Writes (objectWithField m 0 0 4 v) .commit 2 u) (hi : m.index = 0)
    (hv : v ∈ commitActions) :
    s.takeWrite (objectRequest (objectWithField m 0 0 4 v) .commit)
      = if u.controller ≠ .idle ∧ v ≠ 3 then u.refuseValue (objectWithField m 0 0 4 v) .commit false true
        else (u.answerOk m).commitAction v := by
  have ⟨_, _, hwords, _⟩ := hw
  have hlength : 0 < m.words.length := by
    rw [objectWithField, length_withField] at hwords
    omega
  have haction : actionOf (objectWithField m 0 0 4 v).words = v := bits_wordAt_withField m.words 0 0 v hlength (by decide)
  rw [State.takeWrite_of_commit hw hi, haction, if_neg (not_not.2 hv)]
  rfl

theorem State.takeWrite_action_of_draining {v : BitVec 4} (hw : s.Writes (objectWithField m 0 0 4 v) .commit 2 u) (hi : m.index = 0)
    (hv : v ∈ commitActions) (hcancel : v ≠ 3) (h : u.controller ≠ .idle) :
    s.takeWrite (objectRequest (objectWithField m 0 0 4 v) .commit) = u.refuseValue (objectWithField m 0 0 4 v) .commit false true := by
  rw [State.takeWrite_of_action hw hi hv, if_pos ⟨h, hcancel⟩]

theorem State.takeWrite_action_of_idle {v : BitVec 4} (hw : s.Writes (objectWithField m 0 0 4 v) .commit 2 u) (hi : m.index = 0)
    (hv : v ∈ commitActions) (h : u.controller = .idle) :
    s.takeWrite (objectRequest (objectWithField m 0 0 4 v) .commit) = (u.answerOk m).commitAction v := by
  rw [State.takeWrite_of_action hw hi hv, if_neg (fun hbusy => hbusy.1 h)]

end

/-! ### The actions -/

/-! The answer leaves alone what the commit controller looks at (R157). -/

@[simp] theorem State.answerOk_staged (u : State) (m : ObjectWrite) : (u.answerOk m).staged = u.staged := by
  simp only [State.answerOk, State.answer_frame]

@[simp] theorem State.answerOk_active (u : State) (m : ObjectWrite) : (u.answerOk m).active = u.active := by
  simp only [State.answerOk, State.answer_frame]

@[simp] theorem State.answerOk_generation (u : State) (m : ObjectWrite) : (u.answerOk m).generation = u.generation := by
  simp only [State.answerOk, State.answer_frame]

@[simp] theorem State.answerOk_controller (u : State) (m : ObjectWrite) : (u.answerOk m).controller = u.controller := by
  simp only [State.answerOk, State.answer_frame]

@[simp] theorem State.answerOk_drainLimit (u : State) (m : ObjectWrite) : (u.answerOk m).drainLimit = u.drainLimit := by
  simp only [State.answerOk, State.answer_frame]

@[simp] theorem State.answerOk_drained (u : State) (m : ObjectWrite) : (u.answerOk m).drained = u.drained := by
  simp only [State.drained, State.answerOk, State.answer_frame]

section
variable {u : State} {m : ObjectWrite}

theorem State.commitSwap_answerOk (h : u.controller = .idle) :
    (u.answerOk m).commitSwap
      = ({ u.answerOk m with active := u.staged, generation := u.generation + 1, outcome := .done } : State).raise .commit 1 := by
  have hidle : (u.answerOk m).controller = .idle := by rw [State.answerOk_controller, h]
  simp only [State.commitSwap_of_idle hidle, State.answerOk_staged, State.answerOk_generation]

theorem State.startDrain_answerOk_of_drained (hidle : u.controller = .idle) (h : u.drained = true) :
    (u.answerOk m).startDrain
      = ({ u.answerOk m with active := u.staged, generation := u.generation + 1, outcome := .done } : State).raise .commit 1 := by
  rw [State.startDrain_of_drained (by rw [State.answerOk_drained, h]), State.commitSwap_answerOk hidle]

theorem State.startDrain_answerOk_of_work (h : u.drained = false) :
    (u.answerOk m).startDrain = { u.answerOk m with controller := .draining u.drainLimit } := by
  have hwork : (u.answerOk m).drained = false := by rw [State.answerOk_drained, h]
  simp only [State.startDrain_of_work hwork, State.answerOk_drainLimit]

end

/-- Settles O26: in IDLE the action is taken, and for DRAIN the drain condition decides between the swap and the drain; while DRAINING the
value group refuses both. -/
theorem immediateAndDrainCommit : Obligations.ImmediateAndDrainCommit := by
  intro m s u hi swapped
  refine ⟨fun hw => ?immediate, fun hw => ?drain⟩
  case immediate =>
    have hexec : exec (.immediate m) s = .next (s.takeWrite (objectRequest (objectWithField m 0 0 4 1) .commit)) := rfl
    have haction : (u.answerOk m).commitAction 1 = (u.answerOk m).commitSwap := rfl
    rw [hexec]
    refine ⟨fun hidle => ?swaps, fun hdraining => ?refused⟩
    case swaps => rw [State.takeWrite_action_of_idle hw hi (by decide) hidle, haction, State.commitSwap_answerOk hidle]
    case refused => rw [State.takeWrite_action_of_draining hw hi (by decide) (by decide) hdraining]
  case drain =>
    have hexec : exec (.drain m) s = .next (s.takeWrite (objectRequest (objectWithField m 0 0 4 2) .commit)) := rfl
    have haction : (u.answerOk m).commitAction 2 = (u.answerOk m).startDrain := rfl
    rw [hexec]
    refine ⟨fun hidle hempty => ?swaps, fun hidle hwork => ?starts, fun hdraining => ?refused⟩
    case swaps =>
      rw [State.takeWrite_action_of_idle hw hi (by decide) hidle, haction, State.startDrain_answerOk_of_drained hidle hempty]
    case starts =>
      rw [State.takeWrite_action_of_idle hw hi (by decide) hidle, haction, State.startDrain_answerOk_of_work hwork]
    case refused => rw [State.takeWrite_action_of_draining hw hi (by decide) (by decide) hdraining]

/-- Settles O27: CANCEL is never busy, so its action is taken in either state, and the controller decides what it does. -/
theorem cancelEndsDrain : Obligations.CancelEndsDrain := by
  intro m s u hw hi
  have htaken : s.takeWrite (objectRequest (objectWithField m 0 0 4 3) .commit) = (u.answerOk m).commitAction 3 := by
    rw [State.takeWrite_of_action hw hi (by decide), if_neg (fun hbusy => hbusy.2 rfl)]
  have hexec : exec (.cancel m) s = .next (u.answerOk m).cancelDrain := congrArg Host.Outcome.next htaken
  rw [hexec]
  refine ⟨fun hdraining => ?ends, fun hidle => ?nothing⟩
  case ends => rw [State.cancelDrain_of_draining (by rwa [State.answerOk_controller])]
  case nothing => rw [State.cancelDrain_of_idle (by rwa [State.answerOk_controller])]

/-- Settles O28: in IDLE the action is taken; while DRAINING the value group refuses it, and an action that is not listed in either
state. -/
theorem revertCopiesActiveIntoStaged : Obligations.RevertCopiesActiveIntoStaged := by
  refine ⟨fun m s u hw hi => ?revert, fun m s u hw hi hunlisted => ?unlisted⟩
  case revert =>
    have hexec : exec (.revert m) s = .next (s.takeWrite (objectRequest (objectWithField m 0 0 4 4) .commit)) := rfl
    have haction : (u.answerOk m).commitAction 4 = { u.answerOk m with staged := u.active } := by
      rw [← u.answerOk_active m]
      rfl
    rw [hexec]
    refine ⟨fun hidle => ?copies, fun hdraining => ?refused⟩
    case copies => rw [State.takeWrite_action_of_idle hw hi (by decide) hidle, haction]
    case refused => rw [State.takeWrite_action_of_draining hw hi (by decide) (by decide) hdraining]
  case unlisted =>
    have hexec : exec (.managementWrite (objectRequest m .commit)) s = .next (s.takeWrite (objectRequest m .commit)) := rfl
    have hrefused : actionOf m.words ∉ commitActions := hunlisted
    rw [hexec, State.takeWrite_of_commit hw hi, if_pos hrefused]

end Sys2Proof.Machine

namespace Sys2Proof.Machine

/-! O5, O6 and O35: the rows of R141, what a handed fault does, and the rules of an acknowledgement and of an enabled flag. -/

/-! ### Raises -/

section
variable {s : State} {c : AlertKind} {d : Word}

/-- R141: a class that is raised already takes no further detail. -/
theorem State.raise_of_raised (h : (s.alerts.get c).raised.isSome = true) : s.raise c d = s := if_pos h

/-- R141: an enabled class without a notice in the queue queues one. -/
theorem State.raise_of_enabled_none (h : s.alerts.get c = { enabled := true, raised := none, marker := .none }) :
    s.raise c d = (s.putAlert c { enabled := true, raised := some d, marker := .queued }).pushAlert c d := by
  simp only [State.raise, h, Option.isSome_none, Bool.false_eq_true, if_false]

/-- R141: a class whose notice is in the queue, enabled or not, owes a second one. -/
theorem State.raise_of_queued {e : Bool} (h : s.alerts.get c = { enabled := e, raised := none, marker := .queued }) :
    s.raise c d = s.putAlert c { enabled := e, raised := some d, marker := .queuedOwed } := by
  simp only [State.raise, h, Option.isSome_none, Bool.false_eq_true, if_false]

/-- R141: a disabled class is raised without a notice, and its marker stays unless it is QUEUED. -/
theorem State.raise_of_disabled {k : Marker} (h : s.alerts.get c = { enabled := false, raised := none, marker := k })
    (hk : k ≠ .queued) : s.raise c d = s.putAlert c { enabled := false, raised := some d, marker := k } := by
  cases k with
  | queued => exact absurd rfl hk
  | none | queuedOwed => simp only [State.raise, h, Option.isSome_none, Bool.false_eq_true, if_false]

end

/-- Settles O5: each row of R141 by the state of the class. -/
theorem raiseFollowsTable : Obligations.RaiseFollowsTable := by
  refine fun s c d => ⟨State.raise_of_raised, State.raise_of_enabled_none, State.raise_of_queued, fun k h => ?_⟩
  by_cases hk : k = .queued
  · subst hk
    exact State.raise_of_queued h
  · rw [if_neg hk]
    exact State.raise_of_disabled h hk

/-! ### Faults that are handed over -/

/-- R135: the log takes an entry while it holds fewer than 4, and else counts it as dropped. -/
theorem FaultLog.add_eq (l : FaultLog) (f : FaultEntry) :
    l.add f
      = if l.entries.length < 4 then { entries := l.entries ++ [f], drops := l.drops }
        else { entries := l.entries, drops := min (l.drops + 1) 255 } := rfl

/-- R174: the detail of FAULT is the requester's number. -/
theorem requesterDetail_eq (r : Requester) : requesterDetail r = BitVec.ofNat 32 r := by
  have hr : r.val < 32 := r.isLt
  apply BitVec.eq_of_toNat_eq
  simp only [requesterDetail, placeNat, place, BitVec.shiftLeft_zero, BitVec.toNat_setWidth, BitVec.toNat_ofNat]
  omega

/-- R135: the log of its requester takes the entry that is handed over. -/
def State.logFault (s : State) (f : FaultEntry) : State := { s with logs := s.logs.set f.requester (s.logs[f.requester].add f) }

/-- R136: a group 6 entry raises its own class. -/
def State.raiseOwnClass (s : State) (f : FaultEntry) : State :=
  match f.causes.ownClass with
  | some c => s.raise c (requesterDetail f.requester)
  | none => s

@[simp] theorem State.raiseOwnClass_settings (s : State) (f : FaultEntry) : (s.raiseOwnClass f).settings = s.settings := by
  unfold State.raiseOwnClass
  cases f.causes.ownClass with
  | some c => simp only [State.raise_frame]
  | none => rfl

/-- R135, R136: the log, the entry's own class, and then FAULT, which the strict flag decides on; neither of the first two changes it. -/
theorem State.handFault_eq (s : State) (f : FaultEntry) :
    s.handFault f
      = if s.settings[f.requester].strict then ((s.logFault f).raiseOwnClass f).raise .fault (requesterDetail f.requester)
        else (s.logFault f).raiseOwnClass f := by
  have hsettings : ((s.logFault f).raiseOwnClass f).settings = s.settings := State.raiseOwnClass_settings _ f
  rw [← hsettings]
  rfl

/-- Settles O6: the logged entry's causes say which class of its own it raises. -/
theorem faultIsLoggedAndRaised : Obligations.FaultIsLoggedAndRaised := by
  intro s f log s1 d s2
  have hlogged : s.logFault f = s1 := by
    rw [State.logFault, FaultLog.add_eq]
  have hraised : s1.raiseOwnClass f = s2 := by
    simp only [s2, State.raiseOwnClass, requesterDetail_eq]
    cases f.causes <;> rfl
  rw [State.handFault_eq, hlogged, hraised, requesterDetail_eq]

/-! ### Acknowledgements and enabled flags -/

theorem AlertClass.acknowledge_of_not_raised {a : AlertClass} (h : a.raised = none) : a.acknowledge = a := by
  simp only [AlertClass.acknowledge, h, Option.isSome_none, Bool.false_eq_true, if_false]

theorem AlertClass.acknowledge_of_raised {a : AlertClass} {d : Word} (h : a.raised = some d) :
    a.acknowledge = { enabled := a.enabled, raised := none, marker := if a.marker = .queuedOwed then .queued else a.marker } := by
  simp only [AlertClass.acknowledge, h, Option.isSome_some, if_true]

section
variable {s : State} {c : AlertKind} {flag : Bool}

/-- R144: a raised class that is newly enabled with the marker NONE queues its notice. -/
theorem State.enable_of_unsent {d : Word} (h : s.alerts.get c = { enabled := false, raised := some d, marker := .none })
    (hflag : flag = true) :
    s.enable c flag = (s.putAlert c { enabled := true, raised := some d, marker := .queued }).pushAlert c d := by
  simp only [State.enable, h, hflag, Bool.not_false, Bool.and_self]

/-- R144: in every other case the enabled flag alone is written. -/
theorem State.enable_of_nothing_unsent
    (h : flag = false ∨ (s.alerts.get c).enabled = true ∨ (s.alerts.get c).raised = none ∨ (s.alerts.get c).marker ≠ .none) :
    s.enable c flag = s.putAlert c { s.alerts.get c with enabled := flag } := by
  simp only [State.enable]
  split
  · rename_i hnew hraised hmarker
    rw [Bool.and_eq_true, Bool.not_eq_true'] at hnew
    simp [hnew, hraised, hmarker] at h
  · rfl

end

/-- Settles O35: the raised flag decides what an acknowledgement does, and a class that is raised, disabled and without a notice is the one
that enabling makes queue one. -/
theorem acknowledgeAndEnableFollowTheirRules : Obligations.AcknowledgeAndEnableFollowTheirRules :=
  ⟨fun _ => ⟨AlertClass.acknowledge_of_not_raised, fun _ => AlertClass.acknowledge_of_raised⟩,
    fun _ _ _ => ⟨fun _ => State.enable_of_unsent, State.enable_of_nothing_unsent⟩⟩

end Sys2Proof.Machine

namespace Sys2Proof.Machine

/-! O30 and O34: TAKE, and the MW of ALERT in its three parts. -/

/-! ### TAKE -/

theorem bit_eq_getLsbD_bits (w : Word) (i : Nat) : bit w i = (bits w i 1).getLsbD 0 := by simp [bit, bits]

/-- A flag of the row's word outside of the row's field is unchanged. -/
theorem bit_wordAt_withField_of_outside {n : Nat} (ws : List Word) (k lo : Nat) (v : BitVec n) {i : Nat} (hk : k < ws.length)
    (hi : i < 32) (h : i < lo ∨ lo + n ≤ i) : bit (wordAt (withField ws k lo n v) k) i = bit (wordAt ws k) i := by
  rw [bit_eq_getLsbD_bits, bit_eq_getLsbD_bits, bits_wordAt_withField_of_disjoint ws k lo v i 1 hk hi (by omega)]

@[simp] theorem State.answerOk_logs (u : State) (m : ObjectWrite) : (u.answerOk m).logs = u.logs := by
  simp only [State.answerOk, State.answer_frame]

/-- Settles O30: the record of the row holds TAKE, so the value group refuses nothing, and its choice is that of the record it was made
from. -/
theorem takeRemovesOldestFault : Obligations.TakeRemovesOldestFault := by
  intro m r s u hw hi
  have ⟨_, _, hwords, _⟩ := hw
  have hlength : 0 < m.words.length := by
    rw [objectWithField, length_withField] at hwords
    omega
  have hfind : Object.find ObjectClass.fault.code m.index = some (.fault r) := by
    simp only [Object.find, ObjectClass.ofCode_code, indexIn_eq hi, Option.map_some]
  have haction : actionOf (objectWithField m 0 0 4 1).words = 1 := bits_wordAt_withField m.words 0 0 1 hlength (by decide)
  have hclear : clearDropOf (objectWithField m 0 0 4 1).words = bit (wordAt m.words 0) 8 :=
    bit_wordAt_withField_of_outside m.words 0 0 1 hlength (by decide) (by decide)
  have hbad : u.badValue (.fault r) (objectWithField m 0 0 4 1).words = false := by
    simp only [State.badValue, haction, ne_eq, not_true_eq_false, decide_false]
  have hbusy : u.objectBusy (.fault r) (objectWithField m 0 0 4 1).words = false := rfl
  have hanswer : u.answerOk (objectWithField m 0 0 4 1) = u.answerOk m := rfl
  have hexec : exec (.take m) s = .next (s.takeWrite (objectRequest (objectWithField m 0 0 4 1) .fault)) := rfl
  rw [hexec, State.takeWrite_of_writes hw rfl hfind rfl, hbad, hbusy, Bool.or_self, if_neg Bool.false_ne_true, hanswer,
    State.applyWrite, FaultLog.take, hclear, State.answerOk_logs]

/-! ### The acknowledgements of an MW of ALERT -/

/-- R142: a class after the acknowledgements of a record. -/
def AlertClass.acknowledgedBy (ws : List Word) (c : AlertKind) (a : AlertClass) : AlertClass :=
  if ackFlag ws c then a.acknowledge else a

/-- R142: the classes after the acknowledgements of a record. -/
def Alerts.acknowledgedBy (a : Alerts) (ws : List Word) : Alerts :=
  { fault := a.fault.acknowledgedBy ws .fault, undelivered := a.undelivered.acknowledgedBy ws .undelivered
    uncollected := a.uncollected.acknowledgedBy ws .uncollected, level := a.level.acknowledgedBy ws .level
    commit := a.commit.acknowledgedBy ws .commit, restart := a.restart.acknowledgedBy ws .restart }

/-- The alert classes replaced. -/
def State.setAlerts (s : State) (a : Alerts) : State := { s with alerts := a }

/-- R145: the alert destination stored. -/
def State.setAlertDest (s : State) (r : Requester) : State := { s with alertDest := r }

theorem Alerts.put_get (a : Alerts) (c : AlertKind) : a.put c (a.get c) = a := by cases c <;> rfl

/-- R142: one class of the acknowledge set; a class that is not in it is as it was. -/
theorem State.acknowledge_class_eq (s : State) (ws : List Word) (c : AlertKind) :
    (if ackFlag ws c then s.putAlert c (s.alerts.get c).acknowledge else s)
      = s.setAlerts (s.alerts.put c ((s.alerts.get c).acknowledgedBy ws c)) := by
  unfold AlertClass.acknowledgedBy
  split
  · rfl
  · rw [Alerts.put_get, State.setAlerts]

/-- R142: the classes of a list, one after the other. -/
theorem State.acknowledge_list_eq (s : State) (ws : List Word) (cs : List AlertKind) :
    cs.foldl (fun s c => if ackFlag ws c then s.putAlert c (s.alerts.get c).acknowledge else s) s
      = s.setAlerts (cs.foldl (fun a c => a.put c ((a.get c).acknowledgedBy ws c)) s.alerts) := by
  induction cs generalizing s with
  | nil => rfl
  | cons c cs ih =>
    rw [List.foldl_cons, State.acknowledge_class_eq, ih]
    rfl

/-- R142: every class is acknowledged by itself. -/
theorem Alerts.acknowledge_all_eq (a : Alerts) (ws : List Word) :
    AlertKind.all.foldl (fun a c => a.put c ((a.get c).acknowledgedBy ws c)) a = a.acknowledgedBy ws := rfl

theorem State.anyLevel_eq_true_iff {s : State} : s.anyLevel = true ↔ ∃ b : BranchId, s.branches[b].level = true := by
  simp only [State.anyLevel, Bool.or_eq_true, Fin.exists_fin_succ, or_assoc]
  simp

/-- R142: LEVEL is raised again when a record acknowledges it and a level flag is set. -/
def State.raiseLevelAgain (s : State) (ws : List Word) : State :=
  if ackFlag ws .level = true ∧ ∃ b : BranchId, s.branches[b].level = true then s.raise .level s.levelSet else s

/-- R142: the acknowledgements, and then LEVEL. -/
theorem State.acknowledge_eq (s : State) (ws : List Word) :
    s.acknowledge ws = (s.setAlerts (s.alerts.acknowledgedBy ws)).raiseLevelAgain ws := by
  rw [State.acknowledge, State.acknowledge_list_eq, Alerts.acknowledge_all_eq]
  exact if_congr (by rw [Bool.and_eq_true, State.anyLevel_eq_true_iff]) rfl rfl

/-! ### The MW of ALERT -/

@[simp] theorem State.answerOk_alerts (u : State) (m : ObjectWrite) : (u.answerOk m).alerts = u.alerts := by
  simp only [State.answerOk, State.answer_frame]

@[simp] theorem State.answerOk_branches (u : State) (m : ObjectWrite) : (u.answerOk m).branches = u.branches := by
  simp only [State.answerOk, State.answer_frame]

/-- R145: the destination, the acknowledgements, the enables. -/
theorem State.writeAlert_eq (s : State) (ws : List Word) :
    s.writeAlert ws
      = AlertKind.all.foldl (fun t c => t.enable c (enableFlag ws c))
          (((s.setAlertDest (alertDestOf ws)).setAlerts (s.alerts.acknowledgedBy ws)).raiseLevelAgain ws) := by
  rw [State.writeAlert, State.acknowledge_eq]
  rfl

/-- R145: an MW of ALERT has no value that is refused, so it is always written. -/
theorem State.takeWrite_of_alert {s u : State} {m : ObjectWrite} (hw : s.Writes m .alert 2 u) (hi : m.index = 0) :
    s.takeWrite (objectRequest m .alert) = (u.answerOk m).writeAlert m.words := by
  have hfind : Object.find ObjectClass.alert.code m.index = some .alert := by
    simp only [Object.find, ObjectClass.ofCode_code, hi, if_true]
  rw [State.takeWrite_of_writes hw rfl hfind rfl]
  rfl

/-- Settles O34: both rows are the MW of ALERT (log 3), whose first two parts leave the state that the enables are written in. -/
theorem alertWriteFollowsItsThreeParts : Obligations.AlertWriteFollowsItsThreeParts := by
  intro c m s u hrow hw hi w0 acked t1 t2
  have hexec : exec c s = .next (s.takeWrite (objectRequest m .alert)) := by rcases hrow with rfl | rfl <;> rfl
  have hacked :
      ((u.answerOk m).setAlertDest (alertDestOf m.words)).setAlerts ((u.answerOk m).alerts.acknowledgedBy m.words) = t1 := by
    rw [State.answerOk_alerts]
    rfl
  have hagain : t1.raiseLevelAgain m.words = t2 := by
    have hbranches : t1.branches = u.branches := u.answerOk_branches m
    simp only [State.raiseLevelAgain, hbranches]
    rfl
  rw [hexec, State.takeWrite_of_alert hw hi, State.writeAlert_eq, hacked, hagain]
  rfl

end Sys2Proof.Machine

namespace Sys2Proof.Machine

/-! O47: a TRAIN frame that arrives, a TRAIN frame that is sent, and the link up that either may bring. -/

/-! ### The link fields of a port -/

@[simp] theorem State.link_setLink (s : State) (p : Port) (l : LinkPort) : (s.setLink p l).link p = l := by
  cases p with
  | trunk => rfl
  | branch b => simp only [State.link, State.setLink, State.modBranch_get, if_true]

@[simp] theorem State.setLink_setLink (s : State) (p : Port) (l k : LinkPort) : (s.setLink p l).setLink p k = s.setLink p k := by
  cases p with
  | trunk => rfl
  | branch b => simp only [State.setLink, State.modBranch_modBranch]

@[simp] theorem State.link_quiet (s : State) (p : Port) : s.quiet.link p = s.link p := by cases p <;> rfl

@[simp] theorem State.link_emit (s : State) (p q : Port) (f : Frame) : (s.emit q f).link p = s.link p := by cases p <;> rfl

/-- R169: a branch port is allowed to train while its reset flag is clear, the trunk port always. -/
theorem State.mayTrain_eq_true_iff {s : State} {p : Port} :
    s.mayTrain p = true ↔ ∀ b : BranchId, p = .branch b → s.branches[b].reset = false := by
  cases p with
  | trunk => simp [State.mayTrain]
  | branch b => simp [State.mayTrain]

/-! ### Link up -/

/-- R169: link up leaves nothing of what the link fields were. -/
theorem LinkPort.raised_eq (l : LinkPort) : l.raised = { LinkPort.fresh with up := true } := rfl

/-- R169: the runs of a trained port decide, with the ready frame that it has sent. -/
theorem State.upIfTrained_setLink (s : State) (p : Port) (l : LinkPort) :
    (s.setLink p l).upIfTrained p = if 4 ≤ l.readyRun ∧ l.readySent = true then (s.setLink p l).comeUp p else s.setLink p l := by
  simp only [State.upIfTrained, State.link_setLink, Bool.and_eq_true, decide_eq_true_eq]

/-! ### A TRAIN frame that arrives -/

section
variable {s : State} {p : Port} {ready : Bool}

/-- R170: a TRAIN frame on an UP port loses the link. -/
theorem State.receive_train_of_up (h : (s.link p).up = true) :
    s.receive p (.train ready) = (s.setLink p { s.link p with checkFailures := 0 }).linkLost p := if_pos h

/-- R169: the runs are counted to 2 and to 4. -/
theorem LinkPort.four_le_readyRun_trained_iff (l : LinkPort) :
    4 ≤ (l.trained ready).readyRun ↔ (l.trained ready).readyRun = 4 := by
  simp only [LinkPort.trained]
  split <;> omega

theorem LinkPort.trained_eq (l : LinkPort) :
    ({ l with checkFailures := 0 } : LinkPort).trained ready
      = { l with
          checkFailures := 0, trainRun := min (l.trainRun + 1) 2
          readyRun := if ready then min (l.readyRun + 1) 4 else 0, ready := l.ready || decide (1 ≤ l.trainRun) } := by
  have hrun : decide (2 ≤ min (l.trainRun + 1) 2) = decide (1 ≤ l.trainRun) := decide_eq_decide.2 (by omega)
  simp only [LinkPort.trained, hrun]

/-- R169: a TRAIN frame on a DOWN port that may train lengthens its runs, and may bring it UP. -/
theorem State.receive_train_of_training (hdown : (s.link p).up = false) (hmay : s.mayTrain p = true) :
    s.receive p (.train ready)
      = (s.setLink p (({ s.link p with checkFailures := 0 } : LinkPort).trained ready)).upIfTrained p := by
  simp only [State.receive, hdown, Bool.false_eq_true, if_false, hmay, if_true, State.modLink, State.link_setLink,
    State.setLink_setLink]

/-- R166, R169: on a DOWN port that may not train the frame only ends the count of check failures. -/
theorem State.receive_train_of_kept_down (hdown : (s.link p).up = false) (hmay : s.mayTrain p = false) :
    s.receive p (.train ready) = s.setLink p { s.link p with checkFailures := 0 } := by
  simp only [State.receive, hdown, Bool.false_eq_true, if_false, hmay, State.modLink]

/-! ### A TRAIN frame that is sent -/

/-- R169: a DOWN port that may train sends its frame, which may be the ready frame that link up waits for. -/
theorem State.sendTrain_of_training (hdown : (s.link p).up = false) (hmay : s.mayTrain p = true) :
    s.sendTrain p
      = ((s.emit p (.train (s.link p).ready)).setLink p
          { s.link p with readySent := (s.link p).readySent || (s.link p).ready }).upIfTrained p := by
  simp only [State.sendTrain, hdown, hmay, Bool.not_false, Bool.and_self, if_true, State.modLink, State.link_emit]

/-- R169: an UP port, and one that may not train, sends no TRAIN frame. -/
theorem State.sendTrain_of_not_training (h : (s.link p).up = true ∨ s.mayTrain p = false) : s.sendTrain p = s := by
  refine if_neg ?_
  rcases h with hup | hmay
  · simp [hup]
  · simp [hmay]

end

/-- Settles O47: whether the port is UP and whether it may train decide what a TRAIN frame does, in either direction; link up is one
operation. -/
theorem trainingBringsPortUp : Obligations.TrainingBringsPortUp := by
  refine ⟨fun s p => ?linkUp, fun s p => ?frames⟩
  case linkUp => cases p <;> rfl
  case frames =>
    intro l s0 mayTrain
    have hlink : s0.link p = l := s.link_quiet p
    have hmay : s0.mayTrain p = true ↔ mayTrain := State.mayTrain_eq_true_iff
    have hnot : s0.mayTrain p = false ↔ ¬ mayTrain := by rw [← hmay, Bool.not_eq_true]
    have hdown : l.up = false → (s0.link p).up = false := fun h => by rw [hlink, h]
    have hup : l.up = true → (s0.link p).up = true := fun h => by rw [hlink, h]
    refine ⟨fun ready => ⟨fun h => ?lost, fun h ht => ?trained, fun h ht => ?kept⟩, fun h ht => ?sent, fun h => ?silent⟩
    case lost =>
      refine congrArg Host.Outcome.next ((State.receive_train_of_up (hup h)).trans ?_)
      rw [hlink]
    case trained =>
      intro l' v
      have hl' : ({ l with checkFailures := 0 } : LinkPort).trained ready = l' := l.trained_eq
      have hfour : 4 ≤ l'.readyRun ↔ l'.readyRun = 4 := by rw [← hl', LinkPort.four_le_readyRun_trained_iff]
      refine congrArg Host.Outcome.next ((State.receive_train_of_training (hdown h) (hmay.2 ht)).trans ?_)
      simp only [hlink, hl', State.upIfTrained_setLink, hfour]
      rfl
    case kept =>
      refine congrArg Host.Outcome.next ((State.receive_train_of_kept_down (hdown h) (hnot.2 ht)).trans ?_)
      rw [hlink]
    case sent =>
      intro v
      have hv : (s0.emit p (.train l.ready)).setLink p { l with readySent := l.readySent || l.ready } = v := by cases p <;> rfl
      refine congrArg Host.Outcome.next ((State.sendTrain_of_training (hdown h) (hmay.2 ht)).trans ?_)
      rw [hlink, State.upIfTrained_setLink, hv]
    case silent => exact congrArg Host.Outcome.next (State.sendTrain_of_not_training (h.imp hup hnot.2))

end Sys2Proof.Machine

namespace Sys2Proof.Machine

/-! O3, O29: PART_RESET around the trunk port, and the settings that REQ_WRITE and TIMING_WRITE store. -/

/-! ### PART_RESET -/

/-- R171: while the trunk is UP the answer joins the answer list. -/
theorem State.answer_of_up {s : State} (h : s.trunk.link.up = true) (r : Requester) (t : Tag) (body : AnswerBody) :
    s.answer r t body
      = { s with trunk := { s.trunk with answers := s.trunk.answers ++ [{ requester := r, tag := t, body := body }] } } := if_pos h

/-- R8 (log 2): handing a packet over changes nothing but the delivered requests and what was sent. -/
theorem State.Offers.eq {s u : State} {p : TrunkPacket} (h : s.Offers p u) :
    ∃ d, u = { s with sent := [], trunk := { s.trunk with delivered := d } } := by
  obtain ⟨-, ⟨before, rest, -, -, rfl⟩ | ⟨-, -, rfl⟩⟩ := h
  · exact ⟨before ++ rest, rfl⟩
  · exact ⟨s.trunk.delivered, rfl⟩

/-- R163: what a managed reset leaves: the reset values, RESTART raised with MANAGED, and the trunk port. -/
theorem State.managedReset_eq (s : State) :
    s.managedReset
      = { State.reset with
          trunk := { s.trunk with link := { s.trunk.link with checkFailures := 0 }, delivered := [] }
          resetCause := .managed
          notices := [{ seq := 0, source := .alert .restart, dest := 0, payload := [3] }]
          alerts := { State.reset.alerts with restart := { enabled := true, raised := some 3, marker := .queued } }
          sent := s.sent, fresh := s.fresh, pending := s.pending } := rfl

/-- Each command that takes a trunk packet serves it alike in every state. -/
theorem exec_eq_takeRequest {c : Instr} {p : TrunkPacket} (hp : trunkPacketOf c = some p) :
    ∃ serve : State → State, ∀ s, exec c s = .next (s.quiet.takeRequest p serve) := by
  cases c <;> cases hp <;> exact ⟨_, fun _ => rfl⟩

/-- R8, R164 (log 2): a command does the same from two states that offer its packet alike. -/
theorem exec_eq_of_offers {c : Instr} {p : TrunkPacket} {s t u : State} (hp : trunkPacketOf c = some p) (hs : s.Offers p u)
    (ht : t.Offers p u) : exec c s = exec c t := by
  obtain ⟨serve, hexec⟩ := exec_eq_takeRequest hp
  rw [hexec, hexec, State.takeRequest_of_offers serve hs, State.takeRequest_of_offers serve ht]

/-- Settles O3: the answer is handed over while the trunk is UP, before the reset that keeps it; and a waiting MW PART RESET lets the
packet behind it pass, so both orders of delivery offer the packet with the same state to be served from. -/
theorem partResetKeepsTrunkPort : Obligations.PartResetKeepsTrunkPort := by
  refine ⟨fun m s u hw hi => ?resets, fun c p m rest s hp hobject haction hne hup => ?overtakes⟩
  case resets =>
    have hanswer : u.answerOk (objectWithField m 0 0 4 1) = _ := State.answer_of_up hw.1.up _ _ _
    obtain ⟨d, rfl⟩ := hw.1.eq
    rw [exec_partReset_of_writes hw hi, State.managedReset_eq, hanswer]
    rfl
  case overtakes =>
    have hpasses : LetsPass (.managementWrite m) p := .inr ⟨m, rfl, hobject, haction⟩
    have hbehind : State.Offers { s with trunk := { s.trunk with delivered := .managementWrite m :: p :: rest } } p
        { s with sent := [], trunk := { s.trunk with delivered := .managementWrite m :: rest } } := by
      refine ⟨hup, .inl ⟨[.managementWrite m], rest, rfl, fun q hq => ?_, rfl⟩⟩
      rw [List.mem_singleton.1 hq]
      exact ⟨hne.symm, hpasses⟩
    have hfront : State.Offers { s with trunk := { s.trunk with delivered := p :: .managementWrite m :: rest } } p
        { s with sent := [], trunk := { s.trunk with delivered := .managementWrite m :: rest } } :=
      ⟨hup, .inl ⟨[], .managementWrite m :: rest, rfl, fun q hq => absurd hq List.not_mem_nil, rfl⟩⟩
    exact exec_eq_of_offers hp hbehind hfront

/-! ### REQ_WRITE and TIMING_WRITE -/

@[simp] theorem State.answerOk_settings (u : State) (m : ObjectWrite) : (u.answerOk m).settings = u.settings := by
  simp only [State.answerOk, State.answer_frame]

/-- R154: the only manager is a manager, and no other requester is one. -/
theorem State.onlyManager_eq_true_iff {s : State} {r : Requester} :
    s.onlyManager r = true ↔ s.settings[r].manager = true ∧ ∀ x : Requester, x ≠ r → s.settings[x].manager = false := by
  simp only [State.onlyManager, Bool.and_eq_true, List.all_eq_true, List.mem_finRange, true_imp_iff, Bool.or_eq_true, beq_iff_eq,
    Bool.not_eq_true', or_iff_not_imp_left, ne_eq]

/-- R155, R160: what makes a written REQ record a BAD-VALUE. -/
theorem State.badValue_req_iff {s : State} {r : Requester} {ws : List Word} :
    s.badValue (.req r) ws = true
      ↔ 16 < bits (wordAt ws 0) 0 5
        ∨ bit (wordAt ws 0) 9 = false
          ∧ s.settings[r].manager = true ∧ ∀ x : Requester, x ≠ r → s.settings[x].manager = false := by
  simp only [State.badValue, Bool.or_eq_true, decide_eq_true_eq, Bool.and_eq_true, Bool.not_eq_true', State.onlyManager_eq_true_iff]
  rfl

/-- R155, R161: what makes a written TIMING record a BAD-VALUE. -/
theorem State.badValue_timing_iff {s : State} {ws : List Word} :
    s.badValue .timing ws = true ↔ bits (wordAt ws 0) 0 16 = 0 ∨ bits (wordAt ws 1) 0 16 = 0 := by
  simp only [State.badValue, Bool.or_eq_true, decide_eq_true_eq]

section
variable {s u : State} {m : ObjectWrite} {c : ObjectClass} {n : Nat} {o : Object}

/-- R155, R157: an MW of an object that is never OBJECT-BUSY takes effect when its record is no BAD-VALUE. -/
theorem State.takeWrite_of_goodValue (hw : s.Writes m c n u) (hn : recordLength c = n) (ho : Object.find c.code m.index = some o)
    (hr : o.readOnly = false) (hidle : u.objectBusy o m.words = false) (hgood : ¬ u.badValue o m.words = true) :
    s.takeWrite (objectRequest m c) = (u.answerOk m).applyWrite o m.words := by
  rw [State.takeWrite_of_writes hw hn ho hr, hidle, Bool.eq_false_iff.2 hgood]
  rfl

/-- R155: and it is refused with BAD-VALUE alone otherwise. -/
theorem State.takeWrite_of_badValue (hw : s.Writes m c n u) (hn : recordLength c = n) (ho : Object.find c.code m.index = some o)
    (hr : o.readOnly = false) (hidle : u.objectBusy o m.words = false) (hbad : u.badValue o m.words = true) :
    s.takeWrite (objectRequest m c) = u.refuseValue m c true false := by
  rw [State.takeWrite_of_writes hw hn ho hr, hidle, hbad]
  rfl

end

/-- Settles O29: neither object is ever OBJECT-BUSY, so BAD-VALUE alone decides between the refusal and the settings. -/
theorem requesterAndTimingSettingsAreWritten : Obligations.RequesterAndTimingSettingsAreWritten := by
  refine ⟨fun m r s u hw hi => ?req, fun m s u hw hi => ?timing⟩
  case req =>
    intro w0 lastManager bad
    have hfind : Object.find ObjectClass.req.code m.index = some (.req r) := by
      simp only [Object.find, ObjectClass.ofCode_code, indexIn_eq hi, Option.map_some]
    have hbad : u.badValue (.req r) m.words = true ↔ bad := State.badValue_req_iff
    have hexec : exec (.reqWrite m) s = .next (s.takeWrite (objectRequest m .req)) := rfl
    rw [hexec]
    refine ⟨fun hgood => ?stored, fun hrefused => ?refused⟩
    case stored =>
      rw [State.takeWrite_of_goodValue hw rfl hfind rfl rfl (mt hbad.1 hgood), State.applyWrite, State.answerOk_settings]
      rfl
    case refused => rw [State.takeWrite_of_badValue hw rfl hfind rfl rfl (hbad.2 hrefused)]
  case timing =>
    intro collection drain
    have hfind : Object.find ObjectClass.timing.code m.index = some .timing := by
      simp only [Object.find, ObjectClass.ofCode_code, hi, if_true]
    have hbad : u.badValue .timing m.words = true ↔ collection = 0 ∨ drain = 0 := State.badValue_timing_iff
    have hexec : exec (.timingWrite m) s = .next (s.takeWrite (objectRequest m .timing)) := rfl
    rw [hexec]
    refine ⟨fun ⟨hcollection, hdrain⟩ => ?stored, fun hzero => ?refused⟩
    case stored =>
      have hgood : ¬ u.badValue .timing m.words = true := fun h => (hbad.1 h).elim hcollection hdrain
      rw [State.takeWrite_of_goodValue hw rfl hfind rfl rfl hgood]
      rfl
    case refused => rw [State.takeWrite_of_badValue hw rfl hfind rfl rfl (hbad.2 hzero)]

end Sys2Proof.Machine

namespace Sys2Proof.Machine

/-! O22: the records of the windows, COMMIT, REQ, BRANCH, TIMING, PART and IDENT, word by word. -/

/-! ### The record of a window -/

/-- Three fields that fill a word side by side, each at its own bits. -/
theorem append_eq_place {a b c : Nat} (x : BitVec a) (y : BitVec b) (z : BitVec c) (h : a + b + c = 32) :
    (x ++ y ++ z).cast h = place x (b + c) ||| place y c ||| place z 0 := by
  apply BitVec.eq_of_getLsbD_eq
  intro i hi
  simp only [BitVec.getLsbD_cast, BitVec.getLsbD_append, BitVec.getLsbD_or, getLsbD_place, hi, decide_true, Bool.true_and,
    Nat.zero_le, Nat.sub_zero]
  by_cases hz : i < c
  · have hx : ¬ b + c ≤ i := by omega
    simp [hz, hx, Nat.not_le.2 hz]
  · rw [if_neg hz, z.getLsbD_of_ge i (by omega)]
    by_cases hy : i - c < b
    · have hx : ¬ b + c ≤ i := by omega
      simp [hy, hx, Nat.not_lt.1 hz]
    · have hx : b + c ≤ i := by omega
      have hsub : i - c - b = i - (b + c) := by omega
      simp [hy, hx, y.getLsbD_of_ge (i - c) (by omega), hsub]

/-- R175: word 0 of a window record. -/
theorem Window.baseWord_fields (w : Window) :
    let r := wordAt w.toWords 0
    bit r 31 = w.valid ∧ bits r 28 3 = w.branch ∧ bits r 0 28 = w.base := by
  have hword : wordAt w.toWords 0 = placeFlag w.valid 31 ||| place w.branch 28 ||| place w.base 0 :=
    append_eq_place (BitVec.ofBool w.valid) w.branch w.base rfl
  rw [hword]
  simp [bit_or, bits_or, bit_placeFlag, bits_placeFlag_of_disjoint, bits_place, bits_place_of_disjoint, bit_place_of_disjoint]

/-- R175: word 1 of a window record. -/
theorem Window.limitWord_fields (w : Window) :
    let r := wordAt w.toWords 1
    bit r 28 = w.posted ∧ bits r 0 28 = w.limit := by
  have hword : wordAt w.toWords 1 = place (0 : BitVec 3) 29 ||| placeFlag w.posted 28 ||| place w.limit 0 :=
    append_eq_place (0 : BitVec 3) (BitVec.ofBool w.posted) w.limit rfl
  rw [hword]
  simp [bit_or, bits_or, bit_placeFlag, bits_placeFlag_of_disjoint, bits_place, bits_place_of_disjoint, bit_place_of_disjoint]

/-- R175: a window record read is the record written. -/
theorem Window.ofWords_toWords (w : Window) : Window.ofWords w.toWords = w := by
  obtain ⟨hvalid, hbranch, hbase⟩ := w.baseWord_fields
  obtain ⟨hposted, hlimit⟩ := w.limitWord_fields
  rw [Window.ofWords, hvalid, hbranch, hbase, hposted, hlimit]
  rfl

/-! ### The records of COMMIT, REQ and BRANCH -/

theorem CommitOutcome.code_lt (o : CommitOutcome) : o.code < 4 := by cases o <;> decide

theorem BranchState.code_lt (x : BranchState) : x.code < 4 := by cases x <;> decide

/-- R26: a requester's entry count is at most the size of the table. -/
theorem State.entryCount_le (s : State) (r : Requester) : s.entryCount r ≤ 16 := by
  have hle : s.entryCount r ≤ s.entries.toList.length := List.countP_le_length
  rwa [Vector.length_toList] at hle

theorem commitWord_fields (draining : Bool) (o : CommitOutcome) (generation : BitVec 16) :
    let w := wordAt (commitRecord draining o generation) 0
    bits w 0 4 = 0 ∧ bit w 8 = draining ∧ (bits w 16 2).toNat = o.code := by
  simp [commitRecord, wordAt_zero, bit_or, bits_or, bit_placeFlag, bits_placeFlag_of_disjoint, bit_placeNat_of_disjoint,
    bits_placeNat_of_disjoint, toNat_bits_placeNat, o.code_lt]

theorem reqSettingsWord_fields (q : RequesterSettings) (entries logged : Nat) :
    let w := wordAt (reqRecord q entries logged) 0
    bits w 0 5 = q.quota ∧ bit w 8 = q.strict ∧ bit w 9 = q.manager := by
  simp [reqRecord, wordAt_zero, setWidth_eq_place, bit_or, bits_or, bit_placeFlag, bit_placeFlag_of_ne, bits_placeFlag_of_disjoint,
    bits_place, bit_place_of_disjoint]

theorem reqCountsWord_fields (q : RequesterSettings) {entries : Nat} (logged : Nat) (hentries : entries ≤ 16) :
    let w := wordAt (reqRecord q entries logged) 1
    (bits w 0 5).toNat = entries ∧ (logged ≤ 4 → (bits w 8 3).toNat = logged) := by
  refine ⟨?_, fun hlogged => ?_⟩
  · have hlt : entries < 32 := by omega
    simp [reqRecord, wordAt_succ, wordAt_zero, bits_or, bits_placeNat_of_disjoint, toNat_bits_placeNat, hlt]
  · have hlt : logged < 8 := by omega
    simp [reqRecord, wordAt_succ, wordAt_zero, bits_or, bits_placeNat_of_disjoint, toNat_bits_placeNat, hlt]

section
variable (br : Branch) (x : BranchState) (items words : Nat)

theorem branchTimesWord_fields :
    let w := wordAt (branchRecord br x.code items words) 0
    bits w 24 8 = br.timeout ∧ bits w 16 8 = br.interval ∧ bits w 0 16 = br.budget := by
  simp [branchRecord, wordAt_zero, bits_or, bits_place, bits_place_of_disjoint]

theorem branchSettingsWord_fields :
    let w := wordAt (branchRecord br x.code items words) 1
    bit w 17 = br.reset ∧ bit w 16 = br.hold ∧ (bits w 8 5).toNat = br.dest.val ∧ bits w 0 5 = br.watermark := by
  simp [branchRecord, wordAt_succ, wordAt_zero, bit_or, bits_or, bit_placeFlag, bit_placeFlag_of_ne, bits_placeFlag_of_disjoint,
    bits_place, bits_place_of_disjoint, bit_place_of_disjoint, requesterBits]

theorem branchStateWord_fields :
    let w := wordAt (branchRecord br x.code items words) 2
    bit w 17 = br.level ∧ bit w 16 = br.slot.isSome ∧ (bits w 0 2).toNat = x.code
      ∧ (items ≤ 16 → (bits w 8 5).toNat = items) := by
  refine ⟨?_, ?_, ?_, fun hitems => ?_⟩
  · simp [branchRecord, wordAt_succ, wordAt_zero, bit_or, bit_placeFlag, bit_placeFlag_of_ne, bit_placeNat_of_disjoint]
  · simp [branchRecord, wordAt_succ, wordAt_zero, bit_or, bit_placeFlag, bit_placeFlag_of_ne, bit_placeNat_of_disjoint]
  · simp [branchRecord, wordAt_succ, wordAt_zero, bits_or, bits_placeFlag_of_disjoint, bits_placeNat_of_disjoint, toNat_bits_placeNat,
      x.code_lt]
  · have hlt : items < 32 := by omega
    simp [branchRecord, wordAt_succ, wordAt_zero, bits_or, bits_placeFlag_of_disjoint, bits_placeNat_of_disjoint, toNat_bits_placeNat,
      hlt]

theorem branchWordsWord_field {words : Nat} (h : words ≤ 256) :
    (bits (wordAt (branchRecord br x.code items words) 3) 0 9).toNat = words := toNat_bits_placeNat (by decide) (by omega)

end

/-- R175: the record of PART holds the code of the last reset cause. -/
theorem partRecord_eq (c : ResetCause) : partRecord c = [BitVec.ofNat 32 (c.code * 256), 0] := by cases c <;> rfl

/-- Settles O22: each record word by word. -/
theorem settingsRecordsShowTheirFields : Obligations.SettingsRecordsShowTheirFields := by
  refine ⟨Window.ofWords_toWords, rfl, rfl, rfl, fun _ _ => ⟨rfl, rfl⟩, fun w => ?window, fun s => ?commit, fun s q => ?req,
    fun s b => ?branch, fun s => ⟨rfl, partRecord_eq s.resetCause, rfl⟩⟩
  case window =>
    obtain ⟨hvalid, hbranch, hbase⟩ := w.baseWord_fields
    obtain ⟨hposted, hlimit⟩ := w.limitWord_fields
    exact ⟨rfl, hvalid, hbranch, hbase, hposted, hlimit, rfl, rfl⟩
  case commit =>
    obtain ⟨haction, hdraining, houtcome⟩ := commitWord_fields s.draining s.outcome s.generation
    exact ⟨rfl, haction, hdraining, houtcome, rfl⟩
  case req =>
    obtain ⟨hquota, hstrict, hmanager⟩ := reqSettingsWord_fields s.settings[q] (s.entryCount q) s.logs[q].entries.length
    obtain ⟨hentries, hlogged⟩ := reqCountsWord_fields s.settings[q] s.logs[q].entries.length (s.entryCount_le q)
    exact ⟨rfl, hquota, hstrict, hmanager, hentries, fun hlaw => hlogged (hlaw q).1⟩
  case branch =>
    intro r br
    obtain ⟨htimeout, hinterval, hbudget⟩ := branchTimesWord_fields br br.state br.queue.length (queueWords br.queue)
    obtain ⟨hreset, hhold, hdest, hwatermark⟩ := branchSettingsWord_fields br br.state br.queue.length (queueWords br.queue)
    obtain ⟨hlevel, hslot, hstate, hitems⟩ := branchStateWord_fields br br.state br.queue.length (queueWords br.queue)
    exact ⟨rfl, htimeout, hinterval, hbudget, hreset, hhold, hdest, hwatermark, hlevel, hslot, hstate,
      fun hlaw => ⟨hitems (hlaw b).1, branchWordsWord_field br br.state br.queue.length (hlaw b).2⟩⟩

end Sys2Proof.Machine

namespace Sys2Proof.Machine

/-! O21, O24: the check order of the management requests: the length, the object, the permission, the value. -/

/-! ### The length group -/

/-- R151: the length and the record of a management request to class code c are right; an MW carries the record, an MR nothing. -/
def LengthOk (m : ManagementRequest) (write : Prop) (c : BitVec 8) : Prop :=
  (∀ k, ObjectClass.ofCode c = some k → m.length.toNat = recordLength k)
    ∧ (ObjectClass.ofCode c = none → 1 ≤ m.length.toNat ∧ m.length.toNat ≤ 8)
    ∧ (write → m.words.length = m.length.toNat) ∧ (¬ write → m.words = [])

section
variable {m : ManagementRequest} {w : Bool} {write : Prop} {c i : BitVec 8}

/-- R151: LENGTH does not apply exactly when the length is that of the class and the record is carried. -/
theorem lengthFault_eq_false_iff (hw : w = true ↔ write) (ho : m.object = some (c, i)) :
    lengthFault w m = false ↔ LengthOk m write c := by
  have hcarried : (if w then decide (m.words.length ≠ m.length.toNat) else !m.words.isEmpty) = false
      ↔ (write → m.words.length = m.length.toNat) ∧ (¬ write → m.words = []) := by
    rw [← hw]
    cases w <;> simp
  rw [LengthOk, ← hcarried]
  simp only [lengthFault, ho]
  cases hk : ObjectClass.ofCode c with
  | none => simp [Nat.one_le_iff_ne_zero, and_assoc]
  | some k => simp

theorem lengthFault_of_no_object (h : m.object = none) : lengthFault w m = true := by simp only [lengthFault, h]

/-- R151: LENGTH applies without an object, and when the length or the record is wrong. -/
theorem lengthFault_eq_true (hw : w = true ↔ write)
    (h : m.object = none ∨ ∃ c i, m.object = some (c, i) ∧ ¬ LengthOk m write c) : lengthFault w m = true := by
  obtain hnone | ⟨c, i, ho, hwrong⟩ := h
  · exact lengthFault_of_no_object hnone
  · rwa [← Bool.not_eq_false, lengthFault_eq_false_iff hw ho]

end

/-! ### How far a management request goes -/

section
variable {s u : State} {m : ManagementRequest} {c i : BitVec 8} {o : Object}

/-- R149: an MR that is offered is served by the Management Unit. -/
theorem exec_managementRead_of_offers (h : s.Offers (.managementRead m) u) :
    exec (.managementRead m) s = .next (u.serveRead m) := congrArg Host.Outcome.next (State.takeRequest_of_offers _ h)

/-- R149: an MW that is offered is served by the Management Unit. -/
theorem exec_managementWrite_of_offers (h : s.Offers (.managementWrite m) u) :
    exec (.managementWrite m) s = .next (u.serveWrite m) := congrArg Host.Outcome.next (State.takeRequest_of_offers _ h)

theorem State.serveRead_of_lengthFault (h : lengthFault false m = true) :
    u.serveRead m = u.refuseManagement kindMr m (.format false true false false) .format := if_pos h

theorem State.serveRead_of_no_object (h : lengthFault false m = false) (hm : m.object = some (c, i)) (ho : Object.find c i = none) :
    u.serveRead m = u.refuseManagement kindMr m .noObject .unclaimed := by
  simp only [State.serveRead, h, Bool.false_eq_true, if_false, hm, Option.bind_some, ho]

theorem State.serveRead_of_object (h : lengthFault false m = false) (hm : m.object = some (c, i)) (ho : Object.find c i = some o) :
    u.serveRead m = (u.afterRead o).answer m.requester m.tag (.completion .ok (u.record o)) := by
  simp only [State.serveRead, h, Bool.false_eq_true, if_false, hm, Option.bind_some, ho]

theorem State.serveWrite_of_lengthFault (h : lengthFault true m = true) :
    u.serveWrite m = u.refuseManagement kindMw m (.format false true false false) .format := if_pos h

theorem State.serveWrite_of_no_object (h : lengthFault true m = false) (hm : m.object = some (c, i)) (ho : Object.find c i = none) :
    u.serveWrite m = u.refuseManagement kindMw m .noObject .unclaimed := by
  simp only [State.serveWrite, h, Bool.false_eq_true, if_false, hm, Option.bind_some, ho]

/-- R153: an MW to an object is refused when the object is read-only or the requester is no manager. -/
theorem State.serveWrite_of_not_permitted (h : lengthFault true m = false) (hm : m.object = some (c, i))
    (ho : Object.find c i = some o) (hp : o.readOnly = true ∨ u.settings[m.requester].manager = false) :
    u.serveWrite m
      = u.refuseManagement kindMw m (.permission false false false (!u.settings[m.requester].manager) o.readOnly) .denied := by
  have hcause : (!u.settings[m.requester].manager || o.readOnly) = true := by
    rwa [Bool.or_eq_true, Bool.not_eq_true', or_comm]
  simp only [State.serveWrite, h, Bool.false_eq_true, if_false, hm, Option.bind_some, ho, hcause, if_true]

/-- R155, R156: an MW from a manager to a writable object is refused when its record is a BAD-VALUE. -/
theorem State.serveWrite_of_badValue (h : lengthFault true m = false) (hm : m.object = some (c, i)) (ho : Object.find c i = some o)
    (hr : o.readOnly = false) (hmanager : u.settings[m.requester].manager = true) (hbad : u.badValue o m.words = true) :
    u.serveWrite m = u.refuseManagement kindMw m (.value true (u.objectBusy o m.words)) .badValue := by
  simp only [State.serveWrite, h, Bool.false_eq_true, if_false, hm, Option.bind_some, ho, hmanager, hr, hbad, Bool.not_true,
    Bool.or_self, Bool.true_or, if_true]

end

/-! ### MANAGEMENT_READ -/

/-- The class of an object (R152). -/
def Object.objectClass : Object → ObjectClass
  | .ident => .ident
  | .winStaged _ => .winStaged
  | .winActive _ => .winActive
  | .commit => .commit
  | .req _ => .req
  | .fault _ => .fault
  | .branch _ => .branch
  | .probe _ => .probe
  | .entry _ => .entry
  | .alert => .alert
  | .timing => .timing
  | .part => .part

/-- R152: the object that is found is of the class that the code names. -/
theorem Object.ofCode_of_find {c i : BitVec 8} {o : Object} (h : Object.find c i = some o) :
    ObjectClass.ofCode c = some o.objectClass := by
  unfold Object.find at h
  cases hk : ObjectClass.ofCode c with
  | none => simp [hk] at h
  | some k =>
    rw [hk] at h
    cases k with
    | ident | commit | alert | timing | part =>
      obtain ⟨-, ho⟩ := Option.ite_none_right_eq_some.1 h
      cases ho
      rfl
    | winStaged | winActive | req | fault | branch | probe | entry =>
      obtain ⟨x, -, rfl⟩ := Option.map_eq_some_iff.1 h
      rfl

/-- R157 (log 5): a read of ENTRY alone uses a free value. -/
theorem State.afterRead_eq (s : State) (o : Object) :
    s.afterRead o = { s with fresh := if o.objectClass = .entry then s.fresh + 1 else s.fresh } := by cases o <;> rfl

/-- Settles O21: the length and the object are right, so the record of the object found is the answer. -/
theorem managementReadReturnsRecord : Obligations.ManagementReadReturnsRecord := by
  intro m c i k o s u hoff hm hk hlength hwords ho
  have hclass : o.objectClass = k := Option.some.inj ((Object.ofCode_of_find ho).symm.trans hk)
  have hok : LengthOk m False c :=
    ⟨fun k' hk' => Option.some.inj (hk.symm.trans hk') ▸ hlength, fun hnone => by simp [hk] at hnone, False.elim, fun _ => hwords⟩
  have hfault : lengthFault false m = false := (lengthFault_eq_false_iff (by simp) hm).2 hok
  rw [exec_managementRead_of_offers hoff, State.serveRead_of_object hfault hm ho, State.afterRead_eq, hclass]

/-! ### Refusals -/

/-- R153: the objects that cannot be written. -/
theorem Object.readOnly_eq_true_iff {o : Object} :
    o.readOnly = true ↔ o = .ident ∨ (∃ x, o = .winActive x) ∨ ∃ n, o = .entry n := by cases o <;> simp [Object.readOnly]

/-- R155: an action of FAULT or PART that is not listed is a BAD-VALUE, and neither object is ever OBJECT-BUSY. -/
theorem State.badValue_of_unlisted_action {s : State} {o : Object} {ws : List Word} (ho : o = .part ∨ ∃ r, o = .fault r)
    (haction : actionOf ws ≠ 1) : o.readOnly = false ∧ s.badValue o ws = true ∧ s.objectBusy o ws = false := by
  obtain rfl | ⟨r, rfl⟩ := ho <;> exact ⟨rfl, decide_eq_true haction, rfl⟩

/-- R155: an operation of PROBE that is not listed is a BAD-VALUE. -/
theorem State.badValue_of_unlisted_operation {s : State} {b : BranchId} {ws : List Word} (hread : bits (wordAt ws 0) 0 2 ≠ 1)
    (hwrite : bits (wordAt ws 0) 0 2 ≠ 2) : s.badValue (.probe b) ws = true := by
  simp only [State.badValue, probeOfWords, hread, hwrite, if_false]

/-- R93: a probe is busy while it is PENDING or ISSUED. -/
theorem Probe.busy_eq_true_iff {p : Probe} : p.busy = true ↔ (∃ x y, p = .pending x y) ∨ ∃ x y, p = .issued x y := by
  cases p <;> simp [Probe.busy]

/-- Every row that is an MW is served as the MANAGEMENT_WRITE of its packet. -/
theorem exec_of_trunkPacketOf_write {c : Instr} {m : ManagementRequest} (h : trunkPacketOf c = some (.managementWrite m)) (s : State) :
    exec c s = exec (.managementWrite m) s := by
  cases c <;> cases h <;> rfl

/-- Settles O24: the request is served to the first group that finds a cause; a group that is passed is a hypothesis of the clauses
behind it. -/
theorem managementRefusalsFollowCheckOrder : Obligations.ManagementRefusalsFollowCheckOrder := by
  refine ⟨fun c m s h => exec_of_trunkPacketOf_write h s, ?_⟩
  intro m s u refused lengthOk
  refine ⟨fun hoff => ?read, fun hoff => ?write⟩
  case read =>
    have hread : false = true ↔ False := by simp
    rw [exec_managementRead_of_offers hoff]
    refine ⟨fun hlength => ?length, fun c i hm hok hfind => ?object⟩
    case length => exact congrArg Host.Outcome.next (State.serveRead_of_lengthFault (lengthFault_eq_true hread hlength))
    case object =>
      have hfault : lengthFault false m = false := (lengthFault_eq_false_iff hread hm).2 hok
      exact congrArg Host.Outcome.next (State.serveRead_of_no_object hfault hm hfind)
  case write =>
    have hwrite : true = true ↔ True := by simp
    rw [exec_managementWrite_of_offers hoff]
    refine ⟨fun hlength => ?length, fun c i hm hok => ?objects⟩
    case length => exact congrArg Host.Outcome.next (State.serveWrite_of_lengthFault (lengthFault_eq_true hwrite hlength))
    case objects =>
      have hfault : lengthFault true m = false := (lengthFault_eq_false_iff hwrite hm).2 hok
      refine ⟨fun hfind => congrArg Host.Outcome.next (State.serveWrite_of_no_object hfault hm hfind), fun o hfind => ?_⟩
      intro readOnly
      have hreadOnly : o.readOnly = true ↔ readOnly := Object.readOnly_eq_true_iff
      refine ⟨fun h => ?readOnly, fun h hmanager => ?notManager, fun hmanager ho haction => ?action,
        fun b busy hmanager ho hnotRead hnotWrite hbusy => ?operation⟩
      case readOnly =>
        rw [State.serveWrite_of_not_permitted hfault hm hfind (.inl (hreadOnly.2 h)), hreadOnly.2 h]
        rfl
      case notManager =>
        have hwritable : o.readOnly = false := Bool.eq_false_iff.2 (mt hreadOnly.1 h)
        rw [State.serveWrite_of_not_permitted hfault hm hfind (.inr hmanager), hwritable, hmanager]
        rfl
      case action =>
        obtain ⟨hwritable, hbad, hfree⟩ := State.badValue_of_unlisted_action (s := u) ho haction
        rw [State.serveWrite_of_badValue hfault hm hfind hwritable hmanager hbad, hfree]
        rfl
      case operation =>
        subst ho
        have hprobe : u.objectBusy (.probe b) m.words = busy := Bool.eq_iff_iff.2 (Probe.busy_eq_true_iff.trans hbusy.symm)
        rw [State.serveWrite_of_badValue hfault hm hfind rfl hmanager (State.badValue_of_unlisted_operation hnotRead hnotWrite), hprobe]
        rfl

end Sys2Proof.Machine

namespace Sys2Proof.Machine

/-! O58: the bounds of the five ports. The law looks at the ports only: the trunk port, and of each branch its port and whether a request
is outstanding; most operations leave the ports alone. -/

/-! ### The ports -/

/-- Whether a packet from a branch is a BNTC (R172). -/
def isNotice : TargetPacket → Bool
  | .notice _ _ _ => true
  | _ => false

/-- Whether a packet that waits at a branch port is the answer to a BNTC (R172). -/
def BranchPacket.isAnswer : BranchPacket → Bool
  | .noticeAnswer _ => true
  | .request _ => false

/-- Whether a packet that waits at a branch port is a branch request (R172). -/
def BranchPacket.isRequest : BranchPacket → Bool
  | .request _ => true
  | .noticeAnswer _ => false

/-- What the law of the ports looks at in a branch. -/
structure BranchPort where
  link : LinkPort
  delivered : List TargetPacket
  toSend : List BranchPacket
  outstanding : Option Outstanding

/-- The port of a branch, with the request that is outstanding. -/
def Branch.port (br : Branch) : BranchPort :=
  { link := br.link, delivered := br.delivered, toSend := br.toSend, outstanding := br.outstanding }

/-- What the law of the ports looks at in a state. -/
structure Ports where
  trunk : TrunkPort
  branches : BranchId → BranchPort

/-- The five ports of a state. -/
def State.ports (s : State) : Ports := { trunk := s.trunk, branches := fun b => s.branches[b].port }

/-- The ports with the port of one branch replaced. -/
def Ports.setBranch (v : Ports) (b : BranchId) (x : BranchPort) : Ports := { v with branches := Function.update v.branches b x }

/-- R171: the ports after an answer has been handed to the trunk port. -/
def Ports.answer (v : Ports) (x : Answer) : Ports :=
  if v.trunk.link.up then { v with trunk := { v.trunk with answers := v.trunk.answers ++ [x] } } else v

/-! ### The law on the ports -/

/-- R172: the bounds of a branch port, and that it holds no packet while its link is DOWN. -/
structure BranchPort.Sound (v : BranchPort) : Prop where
  link : v.link.lawful = true
  places : v.delivered.countP isNotice + v.toSend.countP BranchPacket.isAnswer ≤ 16
  requests : v.toSend.countP BranchPacket.isRequest ≤ if v.outstanding.isSome then 1 else 0
  down : v.link.up = false → v.delivered = [] ∧ v.toSend = []

/-- R171: the bounds of the trunk port with `room` places left, and that it holds no packet while its link is DOWN. -/
structure TrunkPort.Sound (x : TrunkPort) (room : Nat) : Prop where
  link : x.link.lawful = true
  places : x.answers.length + x.delivered.length + room ≤ 32
  down : x.link.up = false → x.answers = [] ∧ x.delivered = []

/-- The bounds of the five ports, with `room` places left at the trunk. -/
structure Ports.Sound (v : Ports) (room : Nat) : Prop where
  trunk : v.trunk.Sound room
  branch : ∀ b, (v.branches b).Sound

/-- The law on the ports of a state, with `room` places left at the trunk: a request is served with one place left for its answer. -/
def State.PortsSound (s : State) (room : Nat) : Prop := s.ports.Sound room

/-- The law of the claim is the law on the ports. -/
theorem State.portLaw_iff {s : State} : s.PortLaw ↔ s.PortsSound 0 := by
  constructor
  · rintro ⟨hlink, hplaces, hdown, hbranch⟩
    refine ⟨⟨hlink, hplaces, hdown⟩, fun b => ?_⟩
    obtain ⟨hlink, hplaces, hrequests, hdown⟩ := hbranch b
    exact ⟨hlink, hplaces, hrequests, hdown⟩
  · rintro ⟨⟨hlink, hplaces, hdown⟩, hbranch⟩
    exact ⟨hlink, hplaces, hdown, fun b => ⟨(hbranch b).link, (hbranch b).places, (hbranch b).requests, (hbranch b).down⟩⟩

/-! ### Link fields -/

/-- R167, R169: the bounds of the link fields of one port. -/
theorem LinkPort.lawful_iff {l : LinkPort} :
    l.lawful = true ↔ l.replay.length ≤ 16 ∧ (l.up = true ∨ l.replay = []) ∧ l.ackTimer = !l.replay.isEmpty
      ∧ (l.up = true → l.checkFailures < 8 ∧ l.resendRounds ≤ 4) := by
  simp [LinkPort.lawful, and_assoc, imp_iff_not_or]

/-- R167: the link fields of a port that has sent a packet as a DATA frame. -/
def LinkPort.sent (l : LinkPort) (ws : List Word) : LinkPort :=
  { l with nextSend := l.nextSend + 1, replay := l.replay ++ [(l.nextSend, ws)], ackTimer := true }

theorem LinkPort.lawful_sent {l : LinkPort} (h : l.lawful = true) (hsend : l.canSend = true) (ws : List Word) :
    (l.sent ws).lawful = true := by
  obtain ⟨-, -, -, hcounts⟩ := LinkPort.lawful_iff.1 h
  obtain ⟨hup, hroom⟩ := LinkPort.canSend_iff.1 hsend
  exact LinkPort.lawful_iff.2 ⟨by simpa [LinkPort.sent] using hroom, .inl hup, by simp [LinkPort.sent], hcounts⟩

/-- R167: an ACK leaves a part of the replay list. -/
theorem LinkPort.lawful_acknowledged {l : LinkPort} {rest : List (BitVec 8 × List Word)} (h : l.lawful = true)
    (hrest : rest.length ≤ l.replay.length) : (l.acknowledged rest).lawful = true := by
  obtain ⟨hlength, hdown, -, hcounts⟩ := LinkPort.lawful_iff.1 h
  refine LinkPort.lawful_iff.2
    ⟨hrest.trans hlength, hdown.imp_right (fun hempty => ?_), rfl, fun hup => ⟨(hcounts hup).1, Nat.zero_le _⟩⟩
  rw [hempty] at hrest
  exact List.length_eq_zero_iff.1 (Nat.le_zero.1 hrest)

/-- R166: the count of check failures changes, and stays below 8 on an UP port. -/
theorem LinkPort.lawful_count {l : LinkPort} {n : Nat} (h : l.lawful = true) (hn : l.up = true → n < 8) :
    ({ l with checkFailures := n } : LinkPort).lawful = true := by
  obtain ⟨hlength, hdown, htimer, hcounts⟩ := LinkPort.lawful_iff.1 h
  exact LinkPort.lawful_iff.2 ⟨hlength, hdown, htimer, fun hup => ⟨hn hup, (hcounts hup).2⟩⟩

/-- R167: a resend round is counted, up to 4. -/
theorem LinkPort.lawful_round {l : LinkPort} {n : Nat} (h : l.lawful = true) (hn : n ≤ 4) :
    ({ l with resendRounds := n } : LinkPort).lawful = true := by
  obtain ⟨hlength, hdown, htimer, hcounts⟩ := LinkPort.lawful_iff.1 h
  exact LinkPort.lawful_iff.2 ⟨hlength, hdown, htimer, fun hup => ⟨(hcounts hup).1, hn⟩⟩

theorem LinkPort.lawful_raised (l : LinkPort) : l.raised.lawful = true := rfl

/-! ### Packets at the ports -/

section
variable {v : BranchPort}

/-- The link fields change; a port that goes DOWN is not among these changes. -/
theorem BranchPort.Sound.setLink {l : LinkPort} (h : v.Sound) (hl : l.lawful = true) (hup : l.up = false → v.link.up = false) :
    ({ v with link := l } : BranchPort).Sound := ⟨hl, h.places, h.requests, fun hdown => h.down (hup hdown)⟩

/-- R172: a port that goes DOWN discards what was on its way. -/
theorem BranchPort.sound_lose (v : BranchPort) : ({ v with link := v.link.lose, delivered := [], toSend := [] } : BranchPort).Sound :=
  ⟨rfl, Nat.zero_le _, Nat.zero_le _, fun _ => ⟨rfl, rfl⟩⟩

/-- R172: packets leave the port. -/
theorem BranchPort.Sound.dropSend {ps : List BranchPacket} (h : v.Sound) (hps : ps.Sublist v.toSend) :
    ({ v with toSend := ps } : BranchPort).Sound where
  link := h.link
  places := (Nat.add_le_add_left hps.countP_le _).trans h.places
  requests := hps.countP_le.trans h.requests
  down hd := by
    obtain ⟨hdelivered, hsend⟩ := h.down hd
    exact ⟨hdelivered, List.sublist_nil.1 (hsend ▸ hps)⟩

/-- R172: the engine takes the oldest delivered packet. -/
theorem BranchPort.Sound.pop {x : TargetPacket} {rest : List TargetPacket} (h : v.Sound) (hx : v.delivered = x :: rest) :
    ({ v with delivered := rest } : BranchPort).Sound where
  link := h.link
  places := by
    have hplaces := h.places
    simp only [hx, List.countP_cons] at hplaces ⊢
    omega
  requests := h.requests
  down hd := by
    obtain ⟨hempty, -⟩ := h.down hd
    cases hx.symm.trans hempty

/-- R172: an UP port with a place delivers a packet. -/
theorem BranchPort.Sound.deliver {x : TargetPacket} (h : v.Sound) (hup : v.link.up = true)
    (hroom : v.delivered.countP isNotice + v.toSend.countP BranchPacket.isAnswer < 16) :
    ({ v with delivered := v.delivered ++ [x] } : BranchPort).Sound where
  link := h.link
  places := by
    have hone : [x].countP isNotice ≤ 1 := List.countP_le_length
    simp only [List.countP_append]
    omega
  requests := h.requests
  down hd := Bool.noConfusion (hup.symm.trans hd)

/-- R172: an UP port with a place is handed the answer to a BNTC. -/
theorem BranchPort.Sound.handAnswer {taken : Bool} (h : v.Sound) (hup : v.link.up = true)
    (hroom : v.delivered.countP isNotice + v.toSend.countP BranchPacket.isAnswer < 16) :
    ({ v with toSend := v.toSend ++ [.noticeAnswer taken] } : BranchPort).Sound where
  link := h.link
  places := by simpa [List.countP_append, BranchPacket.isAnswer, ← Nat.add_assoc] using hroom
  requests := by simpa [List.countP_append, BranchPacket.isRequest] using h.requests
  down hd := Bool.noConfusion (hup.symm.trans hd)

/-- R84, R172: an UP port without an outstanding request is handed one. -/
theorem BranchPort.Sound.issue {o : Outstanding} {ws : List Word} (h : v.Sound) (hup : v.link.up = true) (hout : v.outstanding = none) :
    ({ v with outstanding := some o, toSend := v.toSend ++ [.request ws] } : BranchPort).Sound where
  link := h.link
  places := by simpa [List.countP_append, BranchPacket.isAnswer] using h.places
  requests := by
    have hnone := h.requests
    simp only [hout, Option.isSome_none, Bool.false_eq_true, if_false] at hnone
    simpa [List.countP_append, BranchPacket.isRequest] using hnone
  down hd := Bool.noConfusion (hup.symm.trans hd)

/-- R84 (log 11): the outstanding request ends, and a branch request that waits is withdrawn. -/
theorem BranchPort.Sound.clear (h : v.Sound) :
    ({ v with outstanding := none, toSend := v.toSend.filter BranchPacket.isAnswer } : BranchPort).Sound where
  link := h.link
  places := (h.dropSend List.filter_sublist).places
  requests := by
    have hnone : ∀ x ∈ v.toSend.filter BranchPacket.isAnswer, ¬ x.isRequest = true := fun x hx => by
      have hanswer : x.isAnswer = true := (List.mem_filter.1 hx).2
      cases x with
      | request ws => cases hanswer
      | noticeAnswer taken => exact Bool.false_ne_true
    exact (List.countP_eq_zero.2 hnone).le
  down := (h.dropSend List.filter_sublist).down

/-- R81: a branch loss, which comes when the port has discarded its packets, leaves no outstanding request. -/
theorem BranchPort.Sound.loseRequest (h : v.Sound) (hsend : v.toSend = []) : ({ v with outstanding := none } : BranchPort).Sound where
  link := h.link
  places := h.places
  requests := by simp [hsend]
  down := h.down

end

section
variable {x : TrunkPort} {room : Nat}

theorem TrunkPort.Sound.setLink {l : LinkPort} (h : x.Sound room) (hl : l.lawful = true) (hup : l.up = false → x.link.up = false) :
    ({ x with link := l } : TrunkPort).Sound room := ⟨hl, h.places, fun hdown => h.down (hup hdown)⟩

theorem TrunkPort.Sound.mono {n : Nat} (h : x.Sound room) (hn : n ≤ room) : x.Sound n :=
  ⟨h.link, (Nat.add_le_add_left hn _).trans h.places, h.down⟩

/-- R171: the answer list and the delivered requests of a DOWN trunk port are empty, and those of an UP one may be replaced. -/
theorem TrunkPort.Sound.replace {xs : List Answer} {ds : List TrunkPacket} {n : Nat} (h : x.Sound room)
    (hplaces : xs.length + ds.length + n ≤ x.answers.length + x.delivered.length + room)
    (hdown : x.link.up = false → x.answers = [] → x.delivered = [] → xs = [] ∧ ds = []) :
    ({ x with answers := xs, delivered := ds } : TrunkPort).Sound n :=
  ⟨h.link, hplaces.trans h.places, fun hd => (h.down hd).elim (hdown hd)⟩

end

/-- R171: the answer to a request takes the place that is left for it. -/
theorem Ports.Sound.answer {v : Ports} (h : v.Sound 1) (x : Answer) : (v.answer x).Sound 0 := by
  unfold Ports.answer
  split
  · rename_i hup
    refine ⟨h.trunk.replace (n := 0) ?_ (fun hd => Bool.noConfusion (hup.symm.trans hd)), h.branch⟩
    rw [List.length_append, List.length_singleton]
    omega
  · exact ⟨h.trunk.mono (Nat.zero_le _), h.branch⟩

/-! ### What leaves the ports alone -/

theorem State.ports_eq {s t : State} (ht : t.trunk = s.trunk) (hb : t.branches = s.branches) : t.ports = s.ports := by
  simp only [State.ports, ht, hb]

@[simp] theorem State.ports_modBranch (s : State) (b : BranchId) (f : Branch → Branch) :
    (s.modBranch b f).ports = s.ports.setBranch b (f s.branches[b]).port := by
  simp only [State.ports, Ports.setBranch, State.modBranch_trunk, State.modBranch_get, Ports.mk.injEq, true_and]
  funext c
  by_cases hbc : b = c
  · subst hbc
    rw [if_pos rfl, Function.update_self]
  · rw [if_neg hbc, Function.update_of_ne (Ne.symm hbc)]

/-- A branch changed elsewhere than at its port. -/
theorem State.ports_modBranch_of_eq {s : State} {b : BranchId} {f : Branch → Branch} (h : (f s.branches[b]).port = s.branches[b].port) :
    (s.modBranch b f).ports = s.ports := by
  rw [State.ports_modBranch, h]
  simp [Ports.setBranch, State.ports]

@[simp] theorem State.ports_emit (s : State) (p : Port) (f : Frame) : (s.emit p f).ports = s.ports := rfl
@[simp] theorem State.ports_setEntry (s : State) (n : EntryId) (e : Entry) : (s.setEntry n e).ports = s.ports := rfl

@[simp] theorem State.ports_raise (s : State) (c : AlertKind) (d : Word) : (s.raise c d).ports = s.ports :=
  State.ports_eq (by simp) (by simp)

@[simp] theorem State.ports_handFault (s : State) (f : FaultEntry) : (s.handFault f).ports = s.ports :=
  State.ports_eq (by simp) (by simp)

@[simp] theorem State.ports_reportDrop (s : State) (b : BranchId) (p : PostedItem) (r : DropReason) :
    (s.reportDrop b p r).ports = s.ports := State.ports_handFault _ _

@[simp] theorem State.ports_reportLost (s : State) (b : BranchId) (q : List Item) : (s.reportLost b q).ports = s.ports :=
  State.ports_eq (by simp) (by simp)

@[simp] theorem State.ports_endCommit (s : State) (o : CommitOutcome) : (s.endCommit o).ports = s.ports :=
  State.ports_eq (by simp) (by simp)

@[simp] theorem State.ports_commitSwap (s : State) : s.commitSwap.ports = s.ports := State.ports_eq (by simp) (by simp)

@[simp] theorem State.ports_drainEnd (s : State) : s.drainEnd.ports = s.ports := State.ports_eq (by simp) (by simp)

@[simp] theorem State.ports_raisesLevel (s : State) (b : BranchId) (before : Bool) : (s.RaisesLevel b before).ports = s.ports := by
  unfold State.RaisesLevel
  split
  · exact s.ports_raise _ _
  · rfl

@[simp] theorem State.ports_setQueue (s : State) (b : BranchId) (q : List Item) : (s.setQueue b q).ports = s.ports := by
  rw [State.setQueue_eq, State.ports_raisesLevel]
  exact State.ports_modBranch_of_eq rfl

/-- R171: an answer changes the trunk port, if it changes anything. -/
@[simp] theorem State.ports_answer (s : State) (r : Requester) (t : Tag) (a : AnswerBody) :
    (s.answer r t a).ports = s.ports.answer { requester := r, tag := t, body := a } := by
  unfold State.answer Ports.answer
  by_cases hup : s.trunk.link.up = true
  · rw [if_pos hup, if_pos (show s.ports.trunk.link.up = true from hup)]
    rfl
  · rw [if_neg hup, if_neg (show ¬ s.ports.trunk.link.up = true from hup)]

/-- R36 to R38: a repeat is answered once. -/
theorem State.ports_answerRepeat (s : State) (n : EntryId) (l : LiveEntry) : ∃ x, (s.answerRepeat n l).ports = s.ports.answer x := by
  unfold State.answerRepeat
  split
  · split <;> exact ⟨_, State.ports_answer _ _ _ _⟩
  · exact ⟨_, State.ports_answer _ _ _ _⟩

/-- R8: a memory request is decoded to one answer. -/
theorem State.Decodes.ports {s t : State} {q : MemoryRequest} (h : s.Decodes q t) : ∃ x, t.ports = s.ports.answer x := by
  cases h with
  | answers body => exact ⟨_, s.ports_answer _ _ _⟩
  | faults f body => exact ⟨_, by rw [State.ports_answer, State.ports_handFault]⟩
  | repeats n l entry => exact s.ports_answerRepeat n l
  | accepts n k a b free new idle carries =>
    exact ⟨_, by rw [State.accept, State.ports_answer, State.appendItem, State.ports_setQueue, State.ports_setEntry]; rfl⟩
  | queues a b idle carries => exact ⟨_, by rw [State.acceptPosted, State.ports_answer, State.appendItem, State.ports_setQueue]⟩

theorem State.ports_abandonEntry (s : State) (n : EntryId) (l : LiveEntry) : (s.abandonEntry n l).ports = s.ports := by
  unfold State.abandonEntry
  split
  · exact State.ports_setQueue _ _ _
  · exact State.ports_modBranch_of_eq rfl
  · rfl
  · rfl
  · rfl

/-- R11, R42 to R46: an ABN is answered once. -/
theorem State.ports_decodeAbandon (s : State) (r : Requester) (t : Tag) (extra : Nat) :
    ∃ x, (s.decodeAbandon r t extra).ports = s.ports.answer x := by
  unfold State.decodeAbandon
  split
  · exact ⟨_, by rw [State.refuseFormat, State.ports_answer, State.ports_handFault]⟩
  · split
    · exact ⟨_, s.ports_answer _ _ _⟩
    · split
      · exact ⟨_, s.ports_answer _ _ _⟩
      · split
        · exact ⟨_, s.ports_answer _ _ _⟩
        · exact ⟨_, by rw [State.ports_answer, State.ports_drainEnd, State.ports_abandonEntry]⟩

theorem State.ports_refuseManagement (s : State) (kind : BitVec 8) (m : ManagementRequest) (c : FaultCauses) (st : CplStatus) :
    ∃ x, (s.refuseManagement kind m c st).ports = s.ports.answer x :=
  ⟨_, by rw [State.refuseManagement, State.ports_answer, State.ports_handFault]⟩

/-- R149 to R157: an MR is answered once. -/
theorem State.ports_serveRead (s : State) (m : ManagementRequest) : ∃ x, (s.serveRead m).ports = s.ports.answer x := by
  unfold State.serveRead
  split
  · exact s.ports_refuseManagement _ _ _ _
  · split
    · exact s.ports_refuseManagement _ _ _ _
    · rename_i o _
      have hread : (s.afterRead o).ports = s.ports := by cases o <;> rfl
      exact ⟨_, by rw [State.ports_answer, hread]⟩

theorem State.ports_endEntry (s : State) (b : BranchId) (n : EntryId) (e : Ending) : (s.endEntry b n e).ports = s.ports := by
  unfold State.endEntry
  split
  · rfl
  · split
    · cases e with
      | later =>
        simp only [State.endIssued]
        split
        · exact State.ports_modBranch_of_eq rfl
        · rfl
      | done | refuse | timeout => rfl
    · rfl
    · rfl

theorem State.ports_endPosted (s : State) (b : BranchId) (e : Ending) : (s.endPosted b e).ports = s.ports := by
  have hdrop : ∀ (p : PostedItem) (rest : List Item) (r : DropReason), (s.dropHead b p rest r).ports = s.ports := fun p rest r => by
    rw [State.dropHead, State.ports_reportDrop, State.ports_setQueue]
  unfold State.endPosted
  split
  · cases e with
    | done => exact State.ports_setQueue _ _ _
    | later =>
      simp only
      split
      · exact State.ports_modBranch_of_eq rfl
      · exact hdrop _ _ _
    | refuse | timeout => exact hdrop _ _ _
  · rfl

theorem Branch.port_endBackoff (br : Branch) : br.endBackoff.port = br.port := by
  unfold Branch.endBackoff
  split
  · split <;> rfl
  · rfl

theorem State.ports_noticeDeparts (s : State) (m : Notice) : (s.noticeDeparts m).ports = s.ports := by
  unfold State.noticeDeparts
  split
  · rfl
  · simp only [State.alertDeparts]
    split <;> rfl

theorem State.ports_expireCollection (s : State) (n : EntryId) : (s.expireCollection n).ports = s.ports := by
  unfold State.expireCollection
  split
  · split
    · exact State.ports_handFault _ _
    · rfl
  · rfl

theorem State.ports_expireDrain (s : State) : s.expireDrain.ports = s.ports := by
  unfold State.expireDrain
  split
  · exact s.ports_endCommit _
  · rfl

theorem State.ports_commitAction (s : State) (action : BitVec 4) : (s.commitAction action).ports = s.ports := by
  have hdrain : s.startDrain.ports = s.ports := by
    unfold State.startDrain
    split
    · exact s.ports_commitSwap
    · rfl
  have hcancel : s.cancelDrain.ports = s.ports := by
    unfold State.cancelDrain
    split
    · exact s.ports_endCommit _
    · rfl
  unfold State.commitAction
  split
  · exact s.ports_commitSwap
  · split
    · exact hdrain
    · split
      · exact hcancel
      · split <;> rfl

theorem State.ports_writeAlert (s : State) (ws : List Word) : (s.writeAlert ws).ports = s.ports := by
  have hack : ∀ u : State, u.ports = s.ports → (u.acknowledge ws).ports = s.ports := fun u hu => by
    have hfold := List.foldlRecOn (motive := fun t : State => t.ports = s.ports) AlertKind.all
      (fun u c => if ackFlag ws c then u.putAlert c (u.alerts.get c).acknowledge else u) hu (fun u hu c _ => by
        split
        · exact hu
        · exact hu)
    simp only [State.acknowledge]
    split
    · exact (State.ports_raise _ _ _).trans hfold
    · exact hfold
  unfold State.writeAlert
  refine List.foldlRecOn (motive := fun t : State => t.ports = s.ports) AlertKind.all _ (hack _ rfl) (fun u hu c _ => ?_)
  simp only [State.enable]
  split <;> exact hu

/-! ### Operations of the ports -/

section
variable {s : State} {k : Nat} {b : BranchId}

theorem State.PortsSound.congr {t : State} (h : s.PortsSound k) (ht : t.ports = s.ports) : t.PortsSound k := by
  rwa [State.PortsSound, ht]

theorem State.PortsSound.mono {n : Nat} (h : s.PortsSound k) (hn : n ≤ k) : s.PortsSound n := ⟨h.trunk.mono hn, h.branch⟩

/-- One request, one answer: the place that is left is enough. -/
theorem State.PortsSound.answered {t : State} (h : s.PortsSound 1) (ht : ∃ x, t.ports = s.ports.answer x) : t.PortsSound 0 := by
  obtain ⟨x, ht⟩ := ht
  rw [State.PortsSound, ht]
  exact Ports.Sound.answer h x

theorem State.PortsSound.modBranch {f : Branch → Branch} (h : s.PortsSound k) (hf : (f s.branches[b]).port.Sound) :
    (s.modBranch b f).PortsSound k := by
  rw [State.PortsSound, State.ports_modBranch]
  refine ⟨h.trunk, fun c => ?_⟩
  simp only [Ports.setBranch]
  by_cases hbc : c = b
  · subst hbc
    rw [Function.update_self]
    exact hf
  · rw [Function.update_of_ne hbc]
    exact h.branch c

variable {p : Port}

theorem State.PortsSound.lawful_link (h : s.PortsSound k) (p : Port) : (s.link p).lawful = true := by
  cases p with
  | trunk => exact h.trunk.link
  | branch b => exact (h.branch b).link

theorem State.PortsSound.setLink {l : LinkPort} (h : s.PortsSound k) (hl : l.lawful = true) (hup : l.up = false → (s.link p).up = false) :
    (s.setLink p l).PortsSound k := by
  cases p with
  | trunk => exact ⟨h.trunk.setLink hl hup, h.branch⟩
  | branch b => exact h.modBranch ((h.branch b).setLink hl hup)

/-- R167: a port that can send sends a packet and keeps it. -/
theorem State.PortsSound.sendData {ws : List Word} (h : s.PortsSound k) (hsend : (s.link p).canSend = true) :
    (s.sendData p ws).PortsSound k :=
  State.PortsSound.congr (h.setLink (LinkPort.lawful_sent (h.lawful_link p) hsend ws) id) (State.ports_emit _ _ _)

theorem State.sendData_get (s : State) (b : BranchId) (ws : List Word) :
    (s.sendData (.branch b) ws).branches[b] = { s.branches[b] with link := s.branches[b].link.sent ws } := by
  simp only [State.sendData, State.setLink, State.emit_branches, State.modBranch_get, if_true]
  rfl

/-- R172: a branch port sends from a list that may wait at it; the rest waits. -/
theorem State.PortsSound.sendWaiting {ps : List BranchPacket} (h : s.PortsSound k)
    (hps : ({ s.branches[b].port with toSend := ps } : BranchPort).Sound) : (s.sendWaiting b ps).PortsSound k := by
  induction ps generalizing s with
  | nil => exact h.modBranch hps
  | cons x rest ih =>
    unfold State.sendWaiting
    split
    · rename_i hsend
      refine ih (h.sendData hsend) ?_
      rw [State.sendData_get]
      exact (hps.setLink (LinkPort.lawful_sent hps.link hsend _) id).dropSend (List.sublist_cons_self _ _)
    · exact h.modBranch hps

/-! ### Losses and resets -/

theorem State.modBranch_of_eq {s : State} {b : BranchId} {f : Branch → Branch} (h : f s.branches[b] = s.branches[b]) :
    s.modBranch b f = s := by
  rw [State.modBranch, h]
  simp

@[simp] theorem State.setLink_link (s : State) (p : Port) : s.setLink p (s.link p) = s := by
  cases p with
  | trunk => rfl
  | branch b => exact State.modBranch_of_eq (f := fun br => { br with link := s.branches[b].link }) rfl

theorem State.setLink_emit (s : State) (p q : Port) (l : LinkPort) (f : Frame) :
    (s.emit q f).setLink p l = (s.setLink p l).emit q f := by cases p <;> rfl

/-- R81: a branch loss, when the port has discarded its packets. -/
theorem State.PortsSound.branchLoss (h : s.PortsSound k) (hsend : s.branches[b].toSend = []) : (s.branchLoss b).PortsSound k := by
  have hlost : ((s.mapEntries (Entry.afterBranchLoss b (s.youngestFrom b) s.collectionLimit)).modBranch b Branch.afterLoss).PortsSound k :=
    State.PortsSound.modBranch (s := s.mapEntries _) h ((h.branch b).loseRequest hsend)
  refine hlost.congr ?_
  rw [State.branchLoss, State.ports_drainEnd, State.ports_reportLost]

theorem State.toSend_loseLink (s : State) (b : BranchId) : (s.modBranch b Branch.loseLink).branches[b].toSend = [] := by
  rw [State.modBranch_get, if_pos rfl]
  rfl

/-- R48, R73: a trunk loss leaves the branch ports alone. -/
theorem State.ports_trunkLoss (s : State) : s.trunkLoss.ports = s.ports := by
  rw [State.trunkLoss, State.ports_drainEnd]
  simp only [State.ports, State.mapBranches_trunk, State.mapBranches_get]
  rfl

/-- R170: a port loses its link, whatever its link fields have come to. -/
theorem State.PortsSound.linkLost_setLink (h : s.PortsSound 0) (l : LinkPort) : ((s.setLink p l).linkLost p).PortsSound 0 := by
  cases p with
  | trunk =>
    refine State.PortsSound.congr ?_ (State.ports_trunkLoss _)
    exact ⟨⟨rfl, Nat.zero_le _, fun _ => ⟨rfl, rfl⟩⟩, h.branch⟩
  | branch b =>
    have hdown : ((s.setLink (.branch b) l).modBranch b Branch.loseLink).PortsSound 0 := by
      rw [State.setLink, State.modBranch_modBranch]
      exact h.modBranch (BranchPort.sound_lose { s.branches[b].port with link := l })
    simp only [State.linkLost]
    split
    · exact hdown.branchLoss (State.toSend_loseLink _ b)
    · exact hdown

theorem State.PortsSound.linkLost (h : s.PortsSound 0) : (s.linkLost p).PortsSound 0 := by
  have hlost := h.linkLost_setLink (p := p) (s.link p)
  rwa [State.setLink_link] at hlost

/-- R162, R171: a reset leaves fresh branch ports around the trunk port given. -/
theorem State.portsSound_resetAll {cause : ResetCause} {x : TrunkPort} (s : State) (hx : x.Sound 0) :
    (s.resetAll cause x).PortsSound 0 := by
  refine State.PortsSound.congr ?_ (State.ports_raise _ _ _)
  exact ⟨hx, (State.portLaw_iff.1 State.reset_portLaw).branch⟩

/-! ### Engines -/

/-- R84, R172: without an outstanding request, one becomes outstanding and is handed to the port. -/
theorem State.PortsSound.issue {o : Outstanding} {ws : List Word} (h : s.PortsSound k) (hup : s.branches[b].link.up = true)
    (hout : s.branches[b].outstanding = none) : (s.issue b o ws).PortsSound k := by
  have hissue := (h.branch b).issue (o := o) (ws := ws) hup hout
  have hout' : (s.modBranch b (fun br => { br with outstanding := some o, responseTimer := some br.timeout })).PortsSound k :=
    h.modBranch (hissue.dropSend (List.sublist_append_left _ _))
  refine hout'.sendWaiting ?_
  rw [State.modBranch_get, if_pos rfl]
  exact hissue

theorem State.PortsSound.issueEntry {n : EntryId} (h : s.PortsSound k) (hup : s.branches[b].link.up = true)
    (hout : s.branches[b].outstanding = none) : (s.issueEntry b n).PortsSound k := by
  unfold State.issueEntry
  split
  · exact State.PortsSound.issue (s := s.setEntry n _) h hup hout
  · exact h

/-- R85: the engine chooses only on an UP branch without an outstanding request; what it takes away is not at the port. -/
theorem State.PortsSound.choose (h : s.PortsSound k) : (s.choose b).PortsSound k := by
  unfold State.choose
  split
  · rename_i src hsrc
    obtain ⟨hout, hup, hcases⟩ := Branch.choice_eq_some hsrc
    have hmod : ∀ f : Branch → Branch, (f s.branches[b]).port = s.branches[b].port →
        (s.modBranch b f).PortsSound k ∧ (s.modBranch b f).branches[b].link.up = true
          ∧ (s.modBranch b f).branches[b].outstanding = none := fun f hf => by
      refine ⟨h.congr (State.ports_modBranch_of_eq hf), ?_⟩
      rw [State.modBranch_get, if_pos rfl]
      exact ⟨(congrArg (fun v : BranchPort => v.link.up) hf).trans hup, (congrArg BranchPort.outstanding hf).trans hout⟩
    rcases hcases with ⟨op, a, -, rfl⟩ | ⟨x, -, rfl⟩ | ⟨p, rest, -, rfl⟩ | ⟨n, rest, -, -, rfl⟩
    · obtain ⟨hs, hup, hout⟩ := hmod (fun br => { br with probe := .issued op a }) rfl
      exact hs.issue hup hout
    · obtain ⟨hs, hup, hout⟩ := hmod (fun br => { br with slot := none }) rfl
      exact hs.issueEntry hup hout
    · obtain ⟨hs, hup, hout⟩ := hmod (fun br => { br with queue := .posted p.issued :: br.queue.tail }) rfl
      exact hs.issue hup hout
    · refine (h.congr (s.ports_setQueue b s.branches[b].queue.tail)).issueEntry ?_ ?_
      · rw [State.setQueue_get]
        exact hup
      · rw [State.setQueue_get]
        exact hout
  · exact h

/-- R89, R91 (log 11): the outstanding request ends, and what it did at the port ends with it. -/
theorem State.PortsSound.endIssue {o : Outstanding} {e : Ending} (h : s.PortsSound k) : (s.endIssue b o e).PortsSound k := by
  have hclear : (s.clearOutstanding b).PortsSound k := h.modBranch (h.branch b).clear
  cases o with
  | entry n => exact hclear.congr ((State.ports_drainEnd _).trans (State.ports_endEntry _ _ _ _))
  | posted => exact hclear.congr ((State.ports_drainEnd _).trans (State.ports_endPosted _ _ _))
  | probe => exact hclear.congr (State.ports_modBranch_of_eq rfl)

theorem State.PortsSound.takeAnswer {a : TargetAnswer} {count : BitVec 6} {ws : List Word} (h : s.PortsSound k) :
    (s.takeAnswer b a count ws).PortsSound k := by
  unfold State.takeAnswer
  split
  · exact h
  · split
    · exact h.endIssue
    · exact h

/-- R96, R172: the answer to a BNTC takes the place of the BNTC. -/
theorem State.PortsSound.takeNotice {count : BitVec 3} {code : BitVec 8} {ws : List Word} (h : s.PortsSound k)
    (hup : s.branches[b].link.up = true) (hroom : s.branches[b].noticePlaces < 16) : (s.takeNotice b count code ws).PortsSound k := by
  unfold State.takeNotice
  split
  · exact h
  · split
    · exact State.PortsSound.sendWaiting (s := s.pushNotice _ _ _) h ((h.branch b).handAnswer hup hroom)
    · exact h.sendWaiting ((h.branch b).handAnswer hup hroom)

theorem State.PortsSound.serveTarget {x : TargetPacket} (h : s.PortsSound k) (hup : s.branches[b].link.up = true)
    (hroom : isNotice x = true → s.branches[b].noticePlaces < 16) : (s.serveTarget b x).PortsSound k := by
  cases x with
  | answer a count ws => exact h.takeAnswer
  | notice count code ws => exact h.takeNotice hup (hroom rfl)
  | other kind => exact h

/-! ### Frames -/

theorem State.PortsSound.modLink {f : LinkPort → LinkPort} (h : s.PortsSound k) (hl : (f (s.link p)).lawful = true)
    (hup : (f (s.link p)).up = (s.link p).up) : (s.modLink p f).PortsSound k := h.setLink hl (fun hdown => hup ▸ hdown)

/-- R106: what departs leaves the answer list or the queue of notices. -/
theorem State.PortsSound.transmit (h : s.PortsSound 0) : s.transmit.PortsSound 0 := by
  unfold State.transmit
  split
  · rename_i hsend
    split
    · rename_i a rest hanswers
      have hpop : ({ s with trunk := { s.trunk with answers := rest } } : State).PortsSound 0 := by
        refine ⟨h.trunk.replace (n := 0) ?_ (fun _ hempty => ?_), h.branch⟩
        · have hlength : s.trunk.answers.length = rest.length + 1 := congrArg List.length hanswers
          show rest.length + s.trunk.delivered.length + 0 ≤ s.trunk.answers.length + s.trunk.delivered.length + 0
          omega
        · cases hanswers.symm.trans hempty
      exact hpop.sendData (p := .trunk) hsend
    · rename_i n rest _ _
      refine State.PortsSound.congr ?_ (State.ports_noticeDeparts _ _)
      exact State.PortsSound.sendData (s := { s with notices := rest }) (p := .trunk) h hsend
    · exact h
  · exact h

theorem State.PortsSound.comeUp (h : s.PortsSound k) : (s.comeUp p).PortsSound k := by
  have hraised : (s.setLink p (s.link p).raised).PortsSound k := h.setLink (LinkPort.lawful_raised _) (fun hdown => Bool.noConfusion hdown)
  cases p with
  | branch b => exact hraised
  | trunk =>
    simp only [State.comeUp]
    split
    · refine State.PortsSound.congr ?_ (State.ports_raise _ _ _)
      exact ⟨⟨hraised.trunk.link, hraised.trunk.places, hraised.trunk.down⟩, hraised.branch⟩
    · exact hraised

theorem State.PortsSound.upIfTrained (h : s.PortsSound k) : (s.upIfTrained p).PortsSound k := by
  unfold State.upIfTrained
  split
  · exact h.comeUp
  · exact h

/-- R168, R171, R172: an UP port with a place delivers a packet. -/
theorem State.PortsSound.deliver {ws : List Word} (h : s.PortsSound 0) (hup : (s.link p).up = true) (hroom : s.hasPlace p = true) :
    (s.deliver p ws).PortsSound 0 := by
  cases p with
  | trunk =>
    have hplace : s.trunk.answers.length + s.trunk.delivered.length < 32 := of_decide_eq_true hroom
    refine ⟨⟨h.trunk.link, ?_, fun hdown => Bool.noConfusion (hup.symm.trans hdown)⟩, h.branch⟩
    simpa [State.deliver, State.ports, ← Nat.add_assoc] using hplace
  | branch b => exact h.modBranch ((h.branch b).deliver hup (of_decide_eq_true hroom))

theorem State.PortsSound.receiveData {n : BitVec 8} {ws : List Word} (h : s.PortsSound 0) (hup : (s.link p).up = true) :
    (s.receiveData p n ws).PortsSound 0 := by
  simp only [State.receiveData]
  split
  · split
    · rename_i hroom
      have hdeliver := h.deliver (ws := ws) hup hroom
      exact hdeliver.modLink (hdeliver.lawful_link p) rfl
    · exact h
  · split <;> exact h

theorem length_le_of_afterNumber {n : BitVec 8} {fs rest : List (BitVec 8 × List Word)} (h : afterNumber n fs = some rest) :
    rest.length ≤ fs.length := by
  induction fs with
  | nil => cases h
  | cons f fs ih =>
    unfold afterNumber at h
    split at h
    · cases h
      exact Nat.le_succ _
    · exact (ih h).trans (Nat.le_succ _)

/-- R167 (log 10): an ACK makes room, in which a branch port sends what waits. -/
theorem State.PortsSound.receiveAck {n : BitVec 8} (h : s.PortsSound k) : (s.receiveAck p n).PortsSound k := by
  unfold State.receiveAck
  split
  · exact h
  · rename_i rest hrest
    have hack : (s.modLink p (fun l => l.acknowledged rest)).PortsSound k :=
      h.modLink (LinkPort.lawful_acknowledged (h.lawful_link p) (length_le_of_afterNumber hrest)) rfl
    cases p with
    | trunk => exact hack
    | branch b => exact hack.sendWaiting (hack.branch b)

theorem State.PortsSound.receive {f : Frame} (h : s.PortsSound 0) : (s.receive p f).PortsSound 0 := by
  have hcount : (s.modLink p (fun l => { l with checkFailures := 0 })).PortsSound 0 :=
    h.modLink (LinkPort.lawful_count (h.lawful_link p) (fun _ => by decide)) rfl
  have hlawful := hcount.lawful_link p
  simp only [State.receive]
  split
  · rename_i hup
    cases f with
    | data n ws => exact hcount.receiveData (by rw [State.modLink, State.link_setLink]; exact hup)
    | ack n => exact hcount.receiveAck
    | resend n => exact hcount
    | train ready => exact hcount.linkLost
  · cases f with
    | train ready =>
      simp only
      split
      · exact (hcount.modLink (f := fun l => l.trained ready) hlawful rfl).upIfTrained
      · exact hcount
    | data | ack | resend => exact hcount.modLink (f := LinkPort.breakRun) hlawful rfl

/-- R166, R170: the eighth check failure of an UP port loses the link, so the count stays below 8. -/
theorem State.PortsSound.receiveFailure (h : s.PortsSound 0) : (s.receiveFailure p).PortsSound 0 := by
  simp only [State.receiveFailure]
  split
  · split
    · rw [State.modLink, ← State.setLink_emit]
      exact State.PortsSound.linkLost_setLink (s := s.emit p _) h _
    · rename_i hup hfew
      exact h.modLink (LinkPort.lawful_count (h.lawful_link p) (fun _ => Nat.not_le.1 hfew)) rfl
  · rename_i hdown
    have hcount := h.modLink (p := p) (f := fun l => { l with checkFailures := l.checkFailures + 1 })
      (LinkPort.lawful_count (h.lawful_link p) (fun hup => absurd hup hdown)) rfl
    exact hcount.modLink (f := LinkPort.breakRun) (hcount.lawful_link p) rfl

theorem State.PortsSound.receiveWords {raw : List Word} (h : s.PortsSound 0) : (s.receiveWords p raw).PortsSound 0 := by
  unfold State.receiveWords
  split
  · exact h.receive
  · exact h.receiveFailure

/-- R167 (log 12): the count of resend rounds stays at 4, where the next expiry loses the link. -/
theorem State.PortsSound.expireAck (h : s.PortsSound 0) : (s.expireAck p).PortsSound 0 := by
  simp only [State.expireAck]
  split
  · split
    · exact h.linkLost
    · rename_i hfew
      exact h.modLink (f := fun l => { l with resendRounds := l.resendRounds + 1 })
        (LinkPort.lawful_round (h.lawful_link p) (Nat.not_le.1 hfew)) rfl
  · exact h

theorem State.PortsSound.sendTrain (h : s.PortsSound k) : (s.sendTrain p).PortsSound k := by
  simp only [State.sendTrain]
  split
  · refine State.PortsSound.upIfTrained (State.PortsSound.modLink (s := s.emit p _) h ?_ rfl)
    rw [State.link_emit]
    exact h.lawful_link p
  · exact h

theorem State.PortsSound.signalLost (h : s.PortsSound 0) : (s.signalLost p).PortsSound 0 := by
  unfold State.signalLost
  split
  · exact h.linkLost
  · exact h

/-! ### Management writes -/

/-- R79, R170: a reset flag that goes from clear to set stops the link. -/
theorem State.PortsSound.applyFlags {hold reset : Bool} (h : s.PortsSound 0) : (s.applyFlags b hold reset).PortsSound 0 := by
  have hflags : (s.modBranch b (fun br => br.setFlags hold reset)).PortsSound 0 := h.congr (State.ports_modBranch_of_eq rfl)
  have hdown : ((s.modBranch b (fun br => br.setFlags hold reset)).modBranch b Branch.loseLink).PortsSound 0 :=
    hflags.modBranch (BranchPort.sound_lose (Branch.port _))
  simp only [State.applyFlags]
  split
  · split
    · exact hdown.branchLoss (State.toSend_loseLink _ b)
    · exact hdown
  · exact hflags

theorem State.PortsSound.writeBranch {v : BranchSettings} (h : s.PortsSound 0) : (s.writeBranch b v).PortsSound 0 := by
  rw [State.writeBranch_eq]
  refine State.PortsSound.applyFlags (h.congr ?_)
  rw [State.ports_raisesLevel]
  exact State.ports_modBranch_of_eq rfl

/-- R163, R171: what a managed reset leaves of the trunk port. -/
theorem State.PortsSound.managedReset (h : s.PortsSound 0) : s.managedReset.PortsSound 0 := by
  have hcount : s.trunk.link.lawful = true := h.trunk.link
  refine State.portsSound_resetAll s
    ⟨LinkPort.lawful_count hcount (fun _ => by decide), ?_, fun hdown => ⟨(h.trunk.down hdown).1, rfl⟩⟩
  exact (Nat.le_add_right _ _).trans h.trunk.places

theorem State.PortsSound.applyWrite {o : Object} {ws : List Word} (h : s.PortsSound 0) : (s.applyWrite o ws).PortsSound 0 := by
  cases o with
  | commit => exact h.congr (s.ports_commitAction _)
  | branch b => exact h.writeBranch
  | probe b =>
    simp only [State.applyWrite]
    split
    · exact h.congr (State.ports_modBranch_of_eq rfl)
    · exact h
  | alert => exact h.congr (s.ports_writeAlert _)
  | part => exact h.managedReset
  | winStaged | req | timing | ident | winActive | fault | entry => exact h

/-- R149 to R157: an MW is answered once; its effect hands no further answer to the trunk port. -/
theorem State.PortsSound.serveWrite {m : ManagementRequest} (h : s.PortsSound 1) : (s.serveWrite m).PortsSound 0 := by
  simp only [State.serveWrite]
  split
  · exact h.answered (s.ports_refuseManagement _ _ _ _)
  · split
    · exact h.answered (s.ports_refuseManagement _ _ _ _)
    · split
      · exact h.answered (s.ports_refuseManagement _ _ _ _)
      · split
        · exact h.answered (s.ports_refuseManagement _ _ _ _)
        · exact (h.answered ⟨_, s.ports_answer _ _ _⟩).applyWrite

/-! ### One command -/

/-- R171: a request that is taken leaves its place, or finds one, for its answer. -/
theorem State.PortsSound.takeRequest {x : TrunkPacket} {serve : State → State} (h : s.PortsSound 0)
    (hserve : ∀ u : State, u.PortsSound 1 → (serve u).PortsSound 0) : (s.takeRequest x serve).PortsSound 0 := by
  unfold State.takeRequest
  split
  · rename_i hoffered
    have hup : s.trunk.link.up = true := (Bool.and_eq_true _ _ ▸ hoffered).1
    have hplaces : s.trunk.answers.length + s.trunk.delivered.length + 0 ≤ 32 := h.trunk.places
    split
    · rename_i hmem
      have herase := List.length_erase_of_mem hmem
      have hpos := List.length_pos_of_mem hmem
      refine hserve _ ⟨⟨h.trunk.link, ?_, fun hdown => Bool.noConfusion (hup.symm.trans hdown)⟩, h.branch⟩
      show s.trunk.answers.length + (s.trunk.delivered.erase x).length + 1 ≤ 32
      omega
    · split
      · rename_i hroom
        exact hserve _ ⟨⟨h.trunk.link, hroom, h.trunk.down⟩, h.branch⟩
      · exact h
  · exact h

/-- R172: a BNTC that is taken leaves its place, or finds one, for its answer. -/
theorem State.PortsSound.takeTarget {x : TargetPacket} {serve : State → State} (h : s.PortsSound 0)
    (hserve : ∀ u : State, u.PortsSound 0 → u.branches[b].link.up = true → (isNotice x = true → u.branches[b].noticePlaces < 16) →
      (serve u).PortsSound 0) : (s.takeTarget b x serve).PortsSound 0 := by
  simp only [State.takeTarget]
  split
  · rename_i hcarries
    have hup : s.branches[b].link.up = true := (Branch.carries_iff.1 hcarries).1
    split
    · rename_i q rest hdelivered
      split
      · rename_i hqx
        refine hserve _ (h.modBranch ((h.branch b).pop hdelivered)) ?_ (fun hnotice => ?_)
        · rw [State.modBranch_get, if_pos rfl]
          exact hup
        · have hplaces : s.branches[b].delivered.countP isNotice + s.branches[b].toSend.countP BranchPacket.isAnswer ≤ 16 :=
            (h.branch b).places
          rw [hdelivered, List.countP_cons, if_pos (hqx ▸ hnotice)] at hplaces
          rw [State.modBranch_get, if_pos rfl]
          show rest.countP isNotice + s.branches[b].toSend.countP BranchPacket.isAnswer < 16
          omega
      · exact h
    · split
      · rename_i hroom
        exact hserve _ h hup (fun _ => hroom)
      · exact h
  · exact h

end

/-- Every command keeps the law of the ports. -/
theorem exec_portsSound {c : Instr} {s t : State} (hs : s.PortsSound 0) (h : exec c s = .next t) : t.PortsSound 0 := by
  have hquiet : s.quiet.PortsSound 0 := hs
  cases c <;> (cases h)
  case read | confirmedWrite | postedWrite | exchange =>
    exact hquiet.takeRequest (fun u hu => hu.answered (u.decodes_decodeMemory _ _).ports)
  case abandon => exact hquiet.takeRequest (fun u hu => hu.answered (u.ports_decodeAbandon _ _ _))
  case unknownKind =>
    exact hquiet.takeRequest (fun u hu => hu.answered ⟨_, (State.ports_answer _ _ _ _).trans (by rw [State.ports_handFault])⟩)
  case managementRead => exact hquiet.takeRequest (fun u hu => hu.answered (u.ports_serveRead _))
  case managementWrite | winStagedWrite | immediate | drain | cancel | revert | reqWrite | take | branchSettingsWrite | holdFlagSet
      | holdFlagCleared | resetFlagSet | resetFlagCleared | probeRead | probeWrite | alertAcknowledge | alertEnable | timingWrite
      | partReset =>
    exact hquiet.takeRequest (fun u hu => hu.serveWrite)
  case hardReset | powerUp => exact State.portsSound_resetAll _ ⟨rfl, by decide, fun _ => ⟨rfl, rfl⟩⟩
  case engineChoice => exact hquiet.choose
  case done | later | refuse => exact hquiet.takeTarget (fun u hu _ _ => hu.takeAnswer)
  case bntc => exact hquiet.takeTarget (fun u hu hup hroom => hu.takeNotice hup (hroom rfl))
  case strayTargetPacket => exact hquiet.takeTarget (fun u hu hup hroom => hu.serveTarget hup hroom)
  case responseTimeout =>
    split
    · exact hquiet.endIssue
    · exact hquiet
  case retryIntervalPasses => exact hquiet.congr (State.ports_modBranch_of_eq rfl)
  case backoffIntervalEnds => exact hquiet.congr (State.ports_modBranch_of_eq (Branch.port_endBackoff _))
  case collectionTimerExpiry => exact hquiet.congr (State.ports_expireCollection _ _)
  case drainTimerExpiry => exact hquiet.congr (State.ports_expireDrain _)
  case transmitChoice => exact hquiet.transmit
  case dataFrame =>
    split
    · exact hquiet.receiveFailure
    · exact hquiet.receive
  case ack | resend | train => exact hquiet.receive
  case trainFrameSend => exact hquiet.sendTrain
  case checkFailure => exact hquiet.receiveWords
  case acknowledgementTimerExpiry => exact hquiet.expireAck
  case signalAbsent => exact hquiet.signalLost

/-- Settles O58: each packet that joins a port finds a place: an answer that of its request, the answer to a BNTC that of the BNTC, a branch
request that of the one that has ended. -/
theorem portLawIsKept : Obligations.PortLawIsKept :=
  kept_of_exec (fun _ _ hs => hs) (fun _ _ _ hs h => State.portLaw_iff.2 (exec_portsSound (State.portLaw_iff.1 hs) h))

end Sys2Proof.Machine

namespace Sys2Proof.Machine

/-! O9, O45, O46, O48 and O49: what a port does with a packet that it is handed, with a frame that arrives, and at the expiry of its
acknowledgement timer. -/

/-! ### What a port is handed -/

/-- R167, R172: while its port cannot send, every packet waits. -/
theorem State.sendWaiting_of_stopped {s : State} {b : BranchId} (h : s.branches[b].link.canSend = false) (ps : List BranchPacket) :
    s.sendWaiting b ps = s.modBranch b (fun br => { br with toSend := ps }) := by
  cases ps with
  | nil => rfl
  | cons p rest => exact if_neg (Bool.not_eq_true _ ▸ h)

/-- R167, R172 (log 10): with room and nothing before it, a packet is sent at once. -/
theorem State.sendWaiting_singleton {s : State} {b : BranchId} {p : BranchPacket} (hsend : s.branches[b].link.canSend = true)
    (hnone : s.branches[b].toSend = []) : s.sendWaiting b [p] = s.sendData (.branch b) p.toWords := by
  have hcons : s.sendWaiting b [p] = (s.sendData (.branch b) p.toWords).sendWaiting b [] := if_pos hsend
  rw [hcons]
  refine State.modBranch_of_eq (f := fun br => { br with toSend := [] }) ?_
  rw [State.sendData_get, ← hnone]

/-- Settles O9: the trunk port looks at its link, a branch port at whether it can send. -/
theorem portsTakeWhatTheyAreHanded : Obligations.PortsTakeWhatTheyAreHanded := by
  refine ⟨fun _ _ _ _ => rfl, fun s b p hnone hup hroom => ?sent, fun s b p hstop => ?waits⟩
  case sent =>
    rw [State.handToPort, hnone]
    exact State.sendWaiting_singleton (LinkPort.canSend_iff.2 ⟨hup, hroom⟩) hnone
  case waits =>
    refine State.sendWaiting_of_stopped ?_ _
    rw [← Bool.not_eq_true, LinkPort.canSend_iff]
    rcases hstop with hdown | hfull
    · exact fun ⟨hup, _⟩ => Bool.false_ne_true (hdown.symm.trans hup)
    · exact fun ⟨_, hroom⟩ => Nat.not_lt.2 hfull hroom

/-! ### Frames on a DOWN port -/

section
variable {s : State} {p : Port}

/-- R169: on a DOWN port every frame but TRAIN breaks the runs. -/
theorem State.receive_of_down {f : Frame} (hdown : (s.link p).up = false) (hf : ∀ ready, f ≠ .train ready) :
    s.receive p f = s.setLink p { s.link p with checkFailures := 0, trainRun := 0, readyRun := 0, ready := false } := by
  have hbreak : s.receive p f = (s.modLink p (fun l => { l with checkFailures := 0 })).modLink p LinkPort.breakRun := by
    simp only [State.receive, hdown, Bool.false_eq_true, if_false]
  rw [hbreak, State.modLink, State.modLink, State.link_setLink, State.setLink_setLink]
  rfl

/-! ### DATA frames on an UP port -/

variable {number : BitVec 8} {ws : List Word}

/-- R165: a DATA frame of 1 to 40 words passes its check. -/
theorem exec_dataFrame_of_length (h1 : 1 ≤ ws.length) (h40 : ws.length ≤ 40) :
    exec (.dataFrame p number ws) s = .next (s.quiet.receive p (.data number ws)) := by
  have hne : ws.isEmpty = false := by
    cases ws with
    | nil => cases h1
    | cons w rest => rfl
  have hfits : decide (Config.frameWords < ws.length) = false := decide_eq_false (Nat.not_lt.2 h40)
  simp only [exec, execDataFrame, hne, hfits, Bool.or_self, Bool.false_eq_true, if_false]

theorem State.receive_data_of_up (h : (s.link p).up = true) :
    s.receive p (.data number ws) = (s.setLink p { s.link p with checkFailures := 0 }).receiveData p number ws := if_pos h

/-- R168: the number expected, with a place. -/
theorem State.receiveData_of_place (hn : number = (s.link p).expected) (hroom : s.hasPlace p = true) :
    s.receiveData p number ws
      = ((s.deliver p ws).modLink p (fun l => { l with expected := l.expected + 1 })).emit p (.ack number) :=
  (if_pos hn).trans (if_pos hroom)

/-- R171, R172: the number expected, without a place. -/
theorem State.receiveData_of_full (hn : number = (s.link p).expected) (hfull : s.hasPlace p = false) :
    s.receiveData p number ws = s := (if_pos hn).trans (if_neg (Bool.not_eq_true _ ▸ hfull))

/-- R168: one of the 16 numbers before the one expected. -/
theorem State.receiveData_of_copy (hn : number ≠ (s.link p).expected) (hold : ((s.link p).expected - number).toNat ≤ 16) :
    s.receiveData p number ws = s.emit p (.ack ((s.link p).expected - 1)) := (if_neg hn).trans (if_pos hold)

/-- R168: any other number. -/
theorem State.receiveData_of_other (hn : number ≠ (s.link p).expected) (hold : 16 < ((s.link p).expected - number).toNat) :
    s.receiveData p number ws = s.emit p (.resend (s.link p).expected) := (if_neg hn).trans (if_neg (Nat.not_le.2 hold))

/-- The places at a port do not depend on its link fields. -/
theorem State.hasPlace_setLink (s : State) (p : Port) (l : LinkPort) : (s.setLink p l).hasPlace p = s.hasPlace p := by
  cases p with
  | trunk => rfl
  | branch b =>
    simp only [State.hasPlace, State.setLink, State.modBranch_get, if_true]
    rfl

theorem State.hasPlace_quiet (s : State) (p : Port) : s.quiet.hasPlace p = s.hasPlace p := by cases p <;> rfl

theorem State.hasPlace_eq_false_iff :
    s.hasPlace p = false ↔ (p = .trunk ∧ 32 ≤ s.trunk.answers.length + s.trunk.delivered.length)
      ∨ ∃ b : BranchId, p = .branch b ∧ 16 ≤ s.branches[b].noticePlaces := by
  cases p with
  | trunk =>
    simp only [true_and, reduceCtorEq, false_and, exists_false, or_false]
    exact decide_eq_false_iff_not.trans Nat.not_lt
  | branch b =>
    simp only [reduceCtorEq, false_and, false_or, Port.branch.injEq, exists_eq_left']
    exact decide_eq_false_iff_not.trans Nat.not_lt

theorem ne_of_pos_sub {m n : BitVec 8} (h : 1 ≤ (m - n).toNat) : n ≠ m := by
  rintro rfl
  rw [BitVec.sub_self] at h
  exact Nat.not_succ_le_zero 0 h

/-- The first frame sent in an event. -/
theorem State.emit_setLink_quiet (s : State) (p : Port) (l : LinkPort) (f : Frame) :
    (s.quiet.setLink p l).emit p f = { s.quiet.setLink p l with sent := [(p, f)] } := by cases p <;> rfl

/-- R168, R171: the delivery on the trunk. -/
theorem State.deliver_trunk (s : State) (l : LinkPort) (ws : List Word) (f : Frame) :
    (((s.quiet.setLink .trunk l).deliver .trunk ws).modLink .trunk (fun l => { l with expected := l.expected + 1 })).emit .trunk f
      = { s with
          trunk :=
            { s.trunk with
              link := { l with expected := l.expected + 1 }, delivered := s.trunk.delivered ++ [TrunkPacket.ofWords ws] }
          sent := [(.trunk, f)] } := rfl

/-- R168, R172: the delivery on a branch. -/
theorem State.deliver_branch (s : State) (b : BranchId) (l : LinkPort) (ws : List Word) (f : Frame) :
    (((s.quiet.setLink (.branch b) l).deliver (.branch b) ws).modLink (.branch b)
        (fun l => { l with expected := l.expected + 1 })).emit (.branch b) f
      = { s with
          branches := s.branches.set b
            { s.branches[b] with
              link := { l with expected := l.expected + 1 }
              delivered := s.branches[b].delivered ++ [TargetPacket.ofWords ws] }
          sent := [(.branch b, f)] } := by
  simp only [State.setLink, State.deliver, State.modLink, State.link, State.modBranch_modBranch, State.modBranch_get, if_true]
  rfl

end

/-- Settles O45: the number of the frame is compared with the number expected, and then the place decides. -/
theorem dataFramesAreDeliveredInOrder : Obligations.DataFramesAreDeliveredInOrder := by
  intro p number ws s h1 h40 l s0 v
  have hlink : s0.link p = l := s.link_quiet p
  rw [exec_dataFrame_of_length h1 h40]
  refine ⟨fun hup => ?up, fun hdown => ?down⟩
  case up =>
    have hreceive : s.quiet.receive p (.data number ws) = v.receiveData p number ws := by
      rw [State.receive_data_of_up ((s.link_quiet p).symm ▸ hup), State.link_quiet]
      rfl
    have hexpected : (v.link p).expected = l.expected := by rw [State.link_setLink]
    have hplace : v.hasPlace p = s.hasPlace p := (s0.hasPlace_setLink p _).trans (s.hasPlace_quiet p)
    rw [hreceive]
    refine ⟨fun hn => ⟨fun hp hroom => ?trunk, fun b hp hroom => ?branch, fun hfull => ?full⟩, fun hpos hold => ?copy,
      fun hold => ?other⟩
    all_goals refine congrArg Host.Outcome.next ?_
    case trunk =>
      subst hp
      rw [State.receiveData_of_place (hn.trans hexpected.symm) (hplace.trans (decide_eq_true hroom))]
      exact s.deliver_trunk _ _ _
    case branch =>
      subst hp
      rw [State.receiveData_of_place (hn.trans hexpected.symm) (hplace.trans (decide_eq_true hroom))]
      exact s.deliver_branch _ _ _ _
    case full =>
      exact State.receiveData_of_full (hn.trans hexpected.symm) (hplace.trans (State.hasPlace_eq_false_iff.2 hfull))
    case copy =>
      rw [State.receiveData_of_copy (hexpected ▸ ne_of_pos_sub hpos) (hexpected ▸ hold), hexpected]
      exact s.emit_setLink_quiet p _ _
    case other =>
      rw [State.receiveData_of_other (hexpected ▸ ne_of_pos_sub (Nat.le_trans (by decide) hold)) (hexpected ▸ hold), hexpected]
      exact s.emit_setLink_quiet p _ _
  case down =>
    refine congrArg Host.Outcome.next ((State.receive_of_down (hlink ▸ hdown) (fun _ h => by cases h)).trans ?_)
    rw [State.link_quiet]
    rfl

/-! ### ACK and RESEND -/

section
variable {s : State} {p : Port} {n : BitVec 8} {ws : List Word} {before rest : List (BitVec 8 × List Word)}

/-- R167: what an ACK leaves is what a RESEND of the same number sends, without the frame named. -/
theorem afterNumber_eq_tail (n : BitVec 8) (fs : List (BitVec 8 × List Word)) : afterNumber n fs = (fromNumber n fs).tail? := by
  induction fs with
  | nil => rfl
  | cons f fs ih =>
    unfold afterNumber fromNumber
    split
    · rfl
    · exact ih

theorem fromNumber_append (h : ∀ f ∈ before, f.1 ≠ n) : fromNumber n (before ++ (n, ws) :: rest) = (n, ws) :: rest := by
  induction before with
  | nil => exact if_pos rfl
  | cons f fs ih =>
    obtain ⟨hf, hfs⟩ := List.forall_mem_cons.1 h
    exact (if_neg hf).trans (ih hfs)

theorem fromNumber_eq_nil (h : ∀ f ∈ rest, f.1 ≠ n) : fromNumber n rest = [] := by
  induction rest with
  | nil => rfl
  | cons f fs ih =>
    obtain ⟨hf, hfs⟩ := List.forall_mem_cons.1 h
    exact (if_neg hf).trans (ih hfs)

theorem State.receive_ack_of_up (h : (s.link p).up = true) :
    s.receive p (.ack n) = (s.setLink p { s.link p with checkFailures := 0 }).receiveAck p n := if_pos h

theorem State.receive_resend_of_up (h : (s.link p).up = true) :
    s.receive p (.resend n)
      = (s.setLink p { s.link p with checkFailures := 0 }).sendAgain p (fromNumber n (s.link p).replay) := if_pos h

theorem State.receiveAck_of_none (h : afterNumber n (s.link p).replay = none) : s.receiveAck p n = s := by
  rw [State.receiveAck, h]

/-- R167: what is left of the replay list restarts the timer, or stops it. -/
theorem State.receiveAck_of_some (h : afterNumber n (s.link p).replay = some rest) :
    s.receiveAck p n
      = (s.setLink p { s.link p with replay := rest, ackTimer := decide (rest ≠ []), resendRounds := 0 }).roomFreed p := by
  have htimer : (!rest.isEmpty) = decide (rest ≠ []) := by cases rest <;> rfl
  rw [State.receiveAck, h]
  simp only [State.modLink, LinkPort.acknowledged, htimer]

/-- R167: the first frames sent in an event. -/
theorem State.sendAgain_setLink_quiet (s : State) (p : Port) (l : LinkPort) (fs : List (BitVec 8 × List Word)) :
    (s.quiet.setLink p l).sendAgain p fs = { s.quiet.setLink p l with sent := fs.map (fun f => (p, .data f.1 f.2)) } := by
  cases p <;> rfl

theorem State.toSend_setLink (s : State) (b : BranchId) (l : LinkPort) :
    (s.setLink (.branch b) l).branches[b].toSend = s.branches[b].toSend := by
  simp only [State.setLink, State.modBranch_get, if_true]

end

/-- Settles O46: whether the port is UP and whether its replay list holds the frame decide. -/
theorem ackAndResendUseReplayList : Obligations.AckAndResendUseReplayList := by
  intro p n s l s0 v
  have hlink : s0.link p = l := s.link_quiet p
  have hv : (v.link p).replay = l.replay := by rw [State.link_setLink]
  have hack : l.up = true → exec (.ack p n) s = .next (v.receiveAck p n) := fun hup => by
    refine congrArg Host.Outcome.next ((State.receive_ack_of_up (hlink ▸ hup)).trans ?_)
    rw [State.link_quiet]
    rfl
  have hresend : l.up = true →
      exec (.resend p n) s = .next { v with sent := (fromNumber n l.replay).map (fun f => (p, .data f.1 f.2)) } := fun hup => by
    refine congrArg Host.Outcome.next ((State.receive_resend_of_up (hlink ▸ hup)).trans ?_)
    rw [State.sendAgain_setLink_quiet, State.link_quiet]
    rfl
  refine ⟨fun before rest ws hup hreplay hbefore => ?held, fun hup hnone => ?absent, fun hdown => ?down⟩
  case held =>
    intro w
    refine ⟨?_, ?_⟩
    · have hafter : afterNumber n (before ++ (n, ws) :: rest) = some rest := by
        rw [afterNumber_eq_tail, fromNumber_append hbefore, List.tail?_cons]
      have hw : v.receiveAck p n = w.roomFreed p := by
        rw [State.receiveAck_of_some (by rw [hv, hreplay]; exact hafter), State.link_setLink, State.setLink_setLink]
      rw [hack hup, hw]
      cases p with
      | trunk => rfl
      | branch b => rw [State.roomFreed, State.toSend_setLink]
    · rw [hresend hup, hreplay, fromNumber_append hbefore]
  case absent =>
    have hafter : afterNumber n (v.link p).replay = none := by
      rw [hv, afterNumber_eq_tail, fromNumber_eq_nil hnone, List.tail?_nil]
    rw [hack hup, hresend hup, State.receiveAck_of_none hafter, fromNumber_eq_nil hnone]
    exact ⟨rfl, by cases p <;> rfl⟩
  case down =>
    intro w
    have hbreak : ∀ f : Frame, (∀ ready, f ≠ .train ready) → s.quiet.receive p f = w := fun f hf => by
      rw [State.receive_of_down (hlink ▸ hdown) hf, State.link_quiet]
      rfl
    exact ⟨congrArg Host.Outcome.next (hbreak _ (fun _ h => by cases h)), congrArg Host.Outcome.next (hbreak _ (fun _ h => by cases h))⟩

/-! ### The acknowledgement timer -/

section
variable {s : State} {p : Port}

theorem State.expireAck_of_few_rounds (hup : (s.link p).up = true) (htimer : (s.link p).ackTimer = true)
    (hfew : (s.link p).resendRounds < 4) :
    s.expireAck p
      = (s.setLink p { s.link p with resendRounds := (s.link p).resendRounds + 1 }).sendAgain p (s.link p).replay := by
  have hlimit : ¬ Config.resendLimit ≤ (s.link p).resendRounds := Nat.not_le.2 hfew
  simp only [State.expireAck, hup, htimer, Bool.and_self, if_true, if_neg hlimit, State.modLink]

/-- R167, R170 (log 12): four rounds in a row have run. -/
theorem State.expireAck_of_four_rounds (hup : (s.link p).up = true) (htimer : (s.link p).ackTimer = true)
    (hfour : 4 ≤ (s.link p).resendRounds) : s.expireAck p = s.linkLost p := by
  have hlimit : Config.resendLimit ≤ (s.link p).resendRounds := hfour
  simp only [State.expireAck, hup, htimer, Bool.and_self, if_true, if_pos hlimit]

theorem State.expireAck_of_stopped (h : (s.link p).up = false ∨ (s.link p).ackTimer = false) : s.expireAck p = s := by
  refine if_neg ?_
  rw [Bool.and_eq_true]
  rintro ⟨hup, htimer⟩
  rcases h with hdown | hstop
  · exact Bool.false_ne_true (hdown.symm.trans hup)
  · exact Bool.false_ne_true (hstop.symm.trans htimer)

end

/-- Settles O49: whether the timer runs, and how many rounds have run. -/
theorem ackTimerResendsOrLosesLink : Obligations.AckTimerResendsOrLosesLink := by
  intro p s l s0
  have hlink : s0.link p = l := s.link_quiet p
  refine ⟨fun hup htimer hfew => ?again, fun hup htimer hfour => ?lost, fun hstop => ?stopped⟩
  all_goals rw [← hlink] at *
  all_goals refine congrArg Host.Outcome.next ?_
  case again =>
    refine (State.expireAck_of_few_rounds hup htimer hfew).trans ?_
    cases p <;> rfl
  case lost => exact State.expireAck_of_four_rounds hup htimer hfour
  case stopped => exact State.expireAck_of_stopped hstop

/-! ### Check failures -/

section
variable {s : State} {p : Port}

/-- R165: no frame is spelled by words that fail the check. -/
theorem exec_checkFailure_of_none {raw : List Word} (h : Frame.ofWords raw = none) :
    exec (.checkFailure p raw) s = .next (s.quiet.receiveFailure p) := by
  simp only [exec, execCheckFailure, State.receiveWords, h]

theorem exec_checkFailure_of_some {raw : List Word} {f : Frame} (h : Frame.ofWords raw = some f) :
    exec (.checkFailure p raw) s = .next (s.quiet.receive p f) := by
  simp only [exec, execCheckFailure, State.receiveWords, h]

/-- R165: a DATA frame of no words, or of more than 40, fails its check. -/
theorem exec_dataFrame_of_bad_length {n : BitVec 8} {ws : List Word} (h : ws = [] ∨ 40 < ws.length) :
    exec (.dataFrame p n ws) s = .next (s.quiet.receiveFailure p) := by
  have hbad : (ws.isEmpty || decide (Config.frameWords < ws.length)) = true := by
    rw [Bool.or_eq_true, List.isEmpty_iff]
    exact h.imp_right (fun hlong => decide_eq_true hlong)
  simp only [exec, execDataFrame, hbad, if_true]

theorem Frame.ofBody_of_ofWords {raw : List Word} {f : Frame} (h : Frame.ofWords raw = some f) :
    ∃ header ws, Frame.ofBody header ws = some f := by
  unfold Frame.ofWords at h
  split at h
  · cases h
  · split at h
    · cases h
    · exact ⟨_, _, (Option.ite_none_right_eq_some.1 h).2⟩

/-- R165: a DATA frame that passes its check has 1 to 40 words. -/
theorem Frame.length_of_ofWords {raw ws : List Word} {n : BitVec 8} (h : Frame.ofWords raw = some (.data n ws)) :
    1 ≤ ws.length ∧ ws.length ≤ 40 := by
  obtain ⟨header, words, hbody⟩ := Frame.ofBody_of_ofWords h
  simp only [Frame.ofBody] at hbody
  split at hbody
  · cases hbody
  · rename_i hlength
    obtain ⟨-, hfits⟩ := not_or.1 hlength
    split at hbody
    · split at hbody
      · cases hbody
      · rename_i hne
        cases hbody
        exact ⟨List.length_pos_iff.2 hne, Nat.not_lt.1 hfits⟩
    · repeat' split at hbody
      all_goals cases hbody

theorem State.receiveFailure_of_few (hup : (s.link p).up = true) (hfew : (s.link p).checkFailures + 1 < 8) :
    s.receiveFailure p
      = (s.setLink p { s.link p with checkFailures := (s.link p).checkFailures + 1 }).emit p (.resend (s.link p).expected) := by
  have hlimit : ¬ Config.failureLimit ≤ (s.link p).checkFailures + 1 := Nat.not_le.2 hfew
  simp only [State.receiveFailure, hup, if_true, if_neg hlimit, State.modLink]

/-- R166, R170 (log 15): the eighth failure loses the link, after the RESEND. -/
theorem State.receiveFailure_of_eighth (hup : (s.link p).up = true) (height : 8 ≤ (s.link p).checkFailures + 1) :
    s.receiveFailure p
      = ((s.setLink p { s.link p with checkFailures := (s.link p).checkFailures + 1 }).emit p
          (.resend (s.link p).expected)).linkLost p := by
  have hlimit : Config.failureLimit ≤ (s.link p).checkFailures + 1 := height
  simp only [State.receiveFailure, hup, if_true, if_pos hlimit, State.modLink]

/-- R169: on a DOWN port the frame breaks the runs. -/
theorem State.receiveFailure_of_down (hdown : (s.link p).up = false) :
    s.receiveFailure p
      = s.setLink p
          { s.link p with checkFailures := (s.link p).checkFailures + 1, trainRun := 0, readyRun := 0, ready := false } := by
  simp only [State.receiveFailure, hdown, Bool.false_eq_true, if_false, State.modLink, State.link_setLink, State.setLink_setLink]
  rfl

end

/-- Settles O48: words that fail the check are counted; others are the frame that they spell. -/
theorem checkFailuresAreCounted : Obligations.CheckFailuresAreCounted := by
  refine ⟨fun p raw s hraw => ?fails, fun p raw f s hraw => ?passes⟩
  case fails =>
    intro l s0 v
    have hlink : s0.link p = l := s.link_quiet p
    have hv : (s0.setLink p { l with checkFailures := l.checkFailures + 1 }).emit p (.resend l.expected) = v :=
      s.emit_setLink_quiet p _ _
    rw [exec_checkFailure_of_none hraw]
    refine ⟨fun hup hfew => ?few, fun hup height => ?eighth, fun hdown => ?down, fun n ws hws => exec_dataFrame_of_bad_length hws⟩
    all_goals rw [← hlink] at *
    all_goals refine congrArg Host.Outcome.next ?_
    case few => exact (State.receiveFailure_of_few hup hfew).trans hv
    case eighth => exact (State.receiveFailure_of_eighth hup height).trans (congrArg (fun u : State => u.linkLost p) hv)
    case down => exact State.receiveFailure_of_down hdown
  case passes =>
    rw [exec_checkFailure_of_some hraw]
    cases f with
    | data n ws =>
      obtain ⟨h1, h40⟩ := Frame.length_of_ofWords hraw
      exact (exec_dataFrame_of_length h1 h40).symm
    | ack | resend | train => rfl

end Sys2Proof.Machine

namespace Sys2Proof.Machine

/-! O59 and O60: the frames and packets that are read back from their words, and the fields of the packets that the relay sends. A header
word is a chain of fields put side by side; each is read at its bits. -/

/-! ### Frames -/

/-- R165: the fields of a link header. -/
theorem linkHeader_fields (type : BitVec 4) (count number sequence : BitVec 8) :
    bits (linkHeader type count number sequence) 28 4 = type ∧ bits (linkHeader type count number sequence) 16 8 = count
      ∧ bits (linkHeader type count number sequence) 8 8 = number
      ∧ bits (linkHeader type count number sequence) 0 8 = sequence := by
  simp (disch := decide) only [bits, linkHeader, BitVec.extractLsb'_append_eq_of_add_le, BitVec.extractLsb'_append_eq_of_le, Nat.reduceSub,
    BitVec.extractLsb'_eq_self, and_self]

/-- R165, R166: the check word of a frame that arrives as it was sent passes. -/
theorem Frame.ofWords_toWords {f : Frame} {header : Word} {ws : List Word} (h : f.body = header :: ws) :
    Frame.ofWords f.toWords = Frame.ofBody header ws := by
  simp [Frame.ofWords, Frame.toWords, h]

/-- R165: a DATA frame is read from its header and words. -/
theorem Frame.ofBody_data {n : BitVec 8} {ws : List Word} (h1 : 1 ≤ ws.length) (h40 : ws.length ≤ 40) :
    Frame.ofBody (linkHeader 1 (BitVec.ofNat 8 ws.length) 0 n) ws = some (.data n ws) := by
  obtain ⟨htype, hcount, -, hsequence⟩ := linkHeader_fields 1 (BitVec.ofNat 8 ws.length) 0 n
  have hlength : (BitVec.ofNat 8 ws.length).toNat = ws.length := by
    rw [BitVec.toNat_ofNat]
    omega
  have hne : ws ≠ [] := List.length_pos_iff.1 h1
  have hok : ¬ ((bits (linkHeader 1 (BitVec.ofNat 8 ws.length) 0 n) 16 8).toNat ≠ ws.length ∨ Config.frameWords < ws.length) :=
    not_or.2 ⟨not_not.2 (by rw [hcount, hlength]), Nat.not_lt.2 h40⟩
  simp only [Frame.ofBody, if_neg hok, htype, hsequence, if_true, if_neg hne]

/-- R165: a frame of another type is read from its header alone. -/
theorem Frame.ofBody_nil {header : Word} (h : bits header 16 8 = 0) (hdata : bits header 28 4 ≠ 1) :
    Frame.ofBody header []
      = if bits header 28 4 = 2 then some (.ack (bits header 8 8))
        else if bits header 28 4 = 3 then some (.resend (bits header 8 8))
        else if bits header 28 4 = 4 then some (.train (bit header 8)) else none := by
  have hok : ¬ ((bits header 16 8).toNat ≠ ([] : List Word).length ∨ Config.frameWords < ([] : List Word).length) := by
    rw [h]
    decide
  simp only [Frame.ofBody, if_neg hok, if_neg hdata, ne_eq, not_true_eq_false, if_false]

/-- Settles O60: the check word passes, and the header gives the type, the length and the number. -/
theorem framesReadBack : Obligations.FramesReadBack := by
  refine ⟨fun n ws h1 h40 => ?data, fun n => ⟨?ack, ?resend⟩, fun ready => ?train⟩
  case data => rw [Frame.ofWords_toWords rfl, Frame.ofBody_data h1 h40]
  case ack =>
    obtain ⟨htype, hcount, hnumber, -⟩ := linkHeader_fields 2 0 n 0
    rw [Frame.ofWords_toWords rfl, Frame.ofBody_nil hcount (by rw [htype]; decide), htype, hnumber]
    rfl
  case resend =>
    obtain ⟨htype, hcount, hnumber, -⟩ := linkHeader_fields 3 0 n 0
    rw [Frame.ofWords_toWords rfl, Frame.ofBody_nil hcount (by rw [htype]; decide), htype, hnumber]
    rfl
  case train =>
    have hflag : bit (linkHeader 4 0 ((BitVec.ofBool ready).setWidth 8) 0) 8 = ready := by cases ready <;> decide
    obtain ⟨htype, hcount, -, -⟩ := linkHeader_fields 4 0 ((BitVec.ofBool ready).setWidth 8) 0
    rw [Frame.ofWords_toWords rfl, Frame.ofBody_nil hcount (by rw [htype]; decide), htype, hflag]
    rfl

/-! ### Packets from the trunk -/

/-- R173: the fields of word 0 of a trunk request. -/
theorem requestHeader_fields (kind : BitVec 8) (r : Requester) (t : Tag) (length : BitVec 6) :
    bits (requestHeader kind r t length) 24 8 = kind ∧ requesterOf (requestHeader kind r t length) = r
      ∧ tagOf (requestHeader kind r t length) = t ∧ bits (requestHeader kind r t length) 6 6 = length := by
  simp (disch := decide) only [requesterOf, tagOf, bits, requestHeader, BitVec.extractLsb'_append_eq_of_add_le,
    BitVec.extractLsb'_append_eq_of_le, Nat.reduceSub, BitVec.extractLsb'_eq_self, requesterBits, tagBits, BitVec.toFin_ofFin, and_self]

/-- R173: the fields of the object word of a management request. -/
theorem objectWord_fields (c i : BitVec 8) :
    bits ((0 : BitVec 16) ++ c ++ i : Word) 8 8 = c ∧ bits ((0 : BitVec 16) ++ c ++ i : Word) 0 8 = i := by
  simp (disch := decide) only [bits, BitVec.extractLsb'_append_eq_of_add_le, BitVec.extractLsb'_append_eq_of_le, Nat.reduceSub,
    BitVec.extractLsb'_eq_self, and_self]

theorem MemKind.ofCode_code (k : MemKind) : MemKind.ofCode k.code = some k := by
  cases k with
  | wrp => rfl
  | np k => cases k <;> rfl

/-- R165, R173: a memory request is read back from its words. -/
theorem MemoryRequest.toWords_eq {q : MemoryRequest} (h : q.wellFormed = true) (kind : BitVec 8) :
    ∃ rest, q.toWords kind = requestHeader kind q.requester q.tag q.length :: rest
      ∧ MemoryRequest.ofWords (requestHeader kind q.requester q.tag q.length) rest = q := by
  obtain ⟨-, hrequester, htag, hlength⟩ := requestHeader_fields kind q.requester q.tag q.length
  unfold MemoryRequest.toWords MemoryRequest.wellFormed at *
  cases ha : q.address with
  | some a =>
    refine ⟨_, rfl, ?_⟩
    simp only [MemoryRequest.ofWords, hrequester, htag, hlength, addressOf_high_low, ← ha]
  | none =>
    have hdata : q.data = [] := by simpa [ha] using h
    refine ⟨_, rfl, ?_⟩
    simp only [MemoryRequest.ofWords, hrequester, htag, hlength, ← ha, ← hdata]

/-- R165, R173: a management request is read back from its words. -/
theorem ManagementRequest.toWords_eq {m : ManagementRequest} (h : m.wellFormed = true) (kind : BitVec 8) :
    ∃ rest, m.toWords kind = requestHeader kind m.requester m.tag m.length :: rest
      ∧ ManagementRequest.ofWords (requestHeader kind m.requester m.tag m.length) rest = m := by
  obtain ⟨-, hrequester, htag, hlength⟩ := requestHeader_fields kind m.requester m.tag m.length
  unfold ManagementRequest.toWords ManagementRequest.wellFormed at *
  cases ho : m.object with
  | some o =>
    obtain ⟨c, i⟩ := o
    obtain ⟨hclass, hindex⟩ := objectWord_fields c i
    refine ⟨_, rfl, ?_⟩
    simp only [ManagementRequest.ofWords, hrequester, htag, hlength, hclass, hindex, ← ho]
  | none =>
    have hwords : m.words = [] := by simpa [ho] using h
    refine ⟨_, rfl, ?_⟩
    simp only [ManagementRequest.ofWords, hrequester, htag, hlength, ← ho, ← hwords]

/-- R9: a kind that is no request kind is none of the seven. -/
theorem ne_of_requestKind {kind c : BitVec 8} (h : requestKind kind = false) (hc : requestKind c = true) : kind ≠ c := by
  rintro rfl
  exact Bool.false_ne_true (h.symm.trans hc)

theorem TrunkPacket.ofWords_memory {k : MemKind} {w0 : Word} {rest : List Word} (h : bits w0 24 8 = k.code) :
    TrunkPacket.ofWords (w0 :: rest) = .memory k (MemoryRequest.ofWords w0 rest) := by
  simp only [TrunkPacket.ofWords, h, MemKind.ofCode_code]

theorem TrunkPacket.ofWords_of_not_memory {w0 : Word} {rest : List Word} (h : MemKind.ofCode (bits w0 24 8) = none) :
    TrunkPacket.ofWords (w0 :: rest)
      = if bits w0 24 8 = kindAbn then .abandon (requesterOf w0) (tagOf w0) rest.length
        else if bits w0 24 8 = kindMr then .managementRead (ManagementRequest.ofWords w0 rest)
        else if bits w0 24 8 = kindMw then .managementWrite (ManagementRequest.ofWords w0 rest)
        else .unknown (bits w0 24 8) (requesterOf w0) (tagOf w0) := by
  simp only [TrunkPacket.ofWords, h]

theorem memoryRequest_readsBack (k : MemKind) {q : MemoryRequest} (h : q.wellFormed = true) :
    TrunkPacket.ofWords (TrunkPacket.memory k q).toWords = .memory k q := by
  obtain ⟨rest, hwords, hread⟩ := MemoryRequest.toWords_eq h k.code
  rw [TrunkPacket.toWords, hwords, TrunkPacket.ofWords_memory (requestHeader_fields _ _ _ _).1, hread]

theorem abandon_readsBack (r : Requester) (t : Tag) (extra : Nat) :
    TrunkPacket.ofWords (TrunkPacket.abandon r t extra).toWords = .abandon r t extra := by
  obtain ⟨hkind, hrequester, htag, -⟩ := requestHeader_fields kindAbn r t 0
  rw [TrunkPacket.toWords, TrunkPacket.ofWords_of_not_memory (by rw [hkind]; decide), if_pos hkind, hrequester, htag,
    List.length_replicate]

theorem managementRead_readsBack {m : ManagementRequest} (h : m.wellFormed = true) :
    TrunkPacket.ofWords (TrunkPacket.managementRead m).toWords = .managementRead m := by
  obtain ⟨rest, hwords, hread⟩ := ManagementRequest.toWords_eq h kindMr
  obtain ⟨hkind, -⟩ := requestHeader_fields kindMr m.requester m.tag m.length
  rw [TrunkPacket.toWords, hwords, TrunkPacket.ofWords_of_not_memory (by rw [hkind]; decide), hkind, hread]
  rfl

theorem managementWrite_readsBack {m : ManagementRequest} (h : m.wellFormed = true) :
    TrunkPacket.ofWords (TrunkPacket.managementWrite m).toWords = .managementWrite m := by
  obtain ⟨rest, hwords, hread⟩ := ManagementRequest.toWords_eq h kindMw
  obtain ⟨hkind, -⟩ := requestHeader_fields kindMw m.requester m.tag m.length
  rw [TrunkPacket.toWords, hwords, TrunkPacket.ofWords_of_not_memory (by rw [hkind]; decide), hkind, hread]
  rfl

/-- R9 (log 24): a packet of unknown kind. -/
theorem unknown_readsBack {kind : BitVec 8} (r : Requester) (t : Tag) (h : requestKind kind = false) :
    TrunkPacket.ofWords (TrunkPacket.unknown kind r t).toWords = .unknown kind r t := by
  obtain ⟨hkind, hrequester, htag, -⟩ := requestHeader_fields kind r t 0
  have hne : ∀ c : BitVec 8, requestKind c = true → kind ≠ c := fun c => ne_of_requestKind h
  have hnone : MemKind.ofCode kind = none := by
    simp only [MemKind.ofCode, hne 0x01#8 (by decide), hne 0x02#8 (by decide), hne 0x03#8 (by decide), hne 0x04#8 (by decide), if_false]
  rw [TrunkPacket.toWords, TrunkPacket.ofWords_of_not_memory (by rw [hkind]; exact hnone), hkind, hrequester, htag,
    if_neg (hne kindAbn (by decide)), if_neg (hne kindMr (by decide)), if_neg (hne kindMw (by decide))]

/-! ### Packets of a target -/

/-- R173: the fields of word 0 of a target's answer and of a branch request. -/
theorem branchHeader_fields (kind : BitVec 8) (count : BitVec 6) :
    bits (kind ++ (0 : BitVec 12) ++ count ++ (0 : BitVec 6) : Word) 24 8 = kind
      ∧ bits (kind ++ (0 : BitVec 12) ++ count ++ (0 : BitVec 6) : Word) 12 12 = 0
      ∧ bits (kind ++ (0 : BitVec 12) ++ count ++ (0 : BitVec 6) : Word) 6 6 = count
      ∧ bits (kind ++ (0 : BitVec 12) ++ count ++ (0 : BitVec 6) : Word) 0 6 = 0 := by
  simp (disch := decide) only [bits, BitVec.extractLsb'_append_eq_of_add_le, BitVec.extractLsb'_append_eq_of_le, Nat.reduceSub,
    BitVec.extractLsb'_eq_self, and_self]

/-- R173: the fields of word 0 of a BNTC. -/
theorem bntcHeader_fields (kind : BitVec 8) (count : BitVec 3) (code : BitVec 8) :
    bits (kind ++ (0 : BitVec 13) ++ count ++ code : Word) 24 8 = kind
      ∧ bits (kind ++ (0 : BitVec 13) ++ count ++ code : Word) 8 3 = count
      ∧ bits (kind ++ (0 : BitVec 13) ++ count ++ code : Word) 0 8 = code := by
  simp (disch := decide) only [bits, BitVec.extractLsb'_append_eq_of_add_le, BitVec.extractLsb'_append_eq_of_le, Nat.reduceSub,
    BitVec.extractLsb'_eq_self, and_self]

/-- R173, R174: a packet of a target is read back from its words. -/
theorem targetPacket_readsBack {p : TargetPacket} (h : p.wellFormed = true) : TargetPacket.ofWords p.toWords = p := by
  cases p with
  | answer a count words =>
    obtain ⟨hkind, -, hcount, -⟩ := branchHeader_fields a.code count
    simp only [TargetPacket.toWords, TargetPacket.ofWords, hkind, hcount]
    cases a <;> rfl
  | notice count code words =>
    obtain ⟨hkind, hcount, hcode⟩ := bntcHeader_fields kindBntc count code
    simp only [TargetPacket.toWords, TargetPacket.ofWords, hkind, hcount, hcode]
    rfl
  | other kind =>
    have hkind : bits (kind ++ (0 : BitVec 24) : Word) 24 8 = kind := by
      simp (disch := decide) only [bits, BitVec.extractLsb'_append_eq_of_le, Nat.reduceSub, BitVec.extractLsb'_eq_self]
    have hout : kind < TargetAnswer.done.code ∨ kindBntc < kind := of_decide_eq_true h
    have hne : ∀ c : BitVec 8, TargetAnswer.done.code ≤ c → c ≤ kindBntc → kind ≠ c := by
      rintro c hlow hhigh rfl
      exact hout.elim (BitVec.not_lt.2 hlow) (BitVec.not_lt.2 hhigh)
    simp only [TargetPacket.toWords, TargetPacket.ofWords, hkind, hne TargetAnswer.done.code (by decide) (by decide),
      hne TargetAnswer.later.code (by decide) (by decide), hne TargetAnswer.refuse.code (by decide) (by decide),
      hne kindBntc (by decide) (by decide), if_false]

/-! ### Packets that the relay sends -/

/-- R173: the fields of word 0 of an answer. -/
theorem answerHeader_fields (kind : BitVec 8) (r : Requester) (t : Tag) (count code : Nat) :
    bits (answerHeader kind r t count code) 24 8 = kind ∧ bits (answerHeader kind r t count code) 21 3 = 0
      ∧ (bits (answerHeader kind r t count code) 16 5).toNat = r.val ∧ (bits (answerHeader kind r t count code) 12 4).toNat = t.val
      ∧ bits (answerHeader kind r t count code) 6 6 = BitVec.ofNat 6 count
      ∧ bits (answerHeader kind r t count code) 0 6 = BitVec.ofNat 6 code := by
  simp (disch := decide) only [bits, answerHeader, BitVec.extractLsb'_append_eq_of_add_le, BitVec.extractLsb'_append_eq_of_le,
    Nat.reduceSub, BitVec.extractLsb'_eq_self, requesterBits, tagBits, BitVec.toNat_ofFin, and_self]

/-- Two fields of 0 side by side are a field of 0. -/
theorem bits_add_eq_zero {w : Word} {lo m n : Nat} (hlow : bits w lo m = 0) (hhigh : bits w (lo + m) n = 0) : bits w lo (m + n) = 0 := by
  have hbit : ∀ (k len i : Nat), bits w k len = 0 → i < len → w.getLsbD (k + i) = false := fun k len i h hi => by
    have hi' := congrArg (fun v : BitVec len => v.getLsbD i) h
    simpa [bits, hi] using hi'
  apply BitVec.eq_of_getLsbD_eq
  intro i hi
  rw [bits, BitVec.getLsbD_extractLsb', decide_eq_true hi, Bool.true_and]
  by_cases him : i < m
  · simpa using hbit lo m i hlow him
  · have hsum : lo + i = lo + m + (i - m) := by omega
    rw [hsum]
    simpa using hbit (lo + m) n (i - m) hhigh (by omega)

theorem CplStatus.toNat_code (st : CplStatus) : (BitVec.ofNat 6 st.code).toNat = st.code := by cases st <;> rfl

theorem BusyReason.toNat_code (r : BusyReason) : (BitVec.ofNat 6 r.code).toNat = r.code := by cases r <;> rfl

/-- R173: what every answer holds in word 0. -/
theorem Answer.requester_fields (x : Answer) :
    bits (wordAt x.toWords 0) 21 3 = 0 ∧ (bits (wordAt x.toWords 0) 16 5).toNat = x.requester.val
      ∧ (bits (wordAt x.toWords 0) 12 4).toNat = x.tag.val := by
  have hfields : ∀ (kind : BitVec 8) (count code : Nat), wordAt x.toWords 0 = answerHeader kind x.requester x.tag count code →
      bits (wordAt x.toWords 0) 21 3 = 0 ∧ (bits (wordAt x.toWords 0) 16 5).toNat = x.requester.val
        ∧ (bits (wordAt x.toWords 0) 12 4).toNat = x.tag.val := fun kind count code h => by
    obtain ⟨-, hzero, hrequester, htag, -⟩ := answerHeader_fields kind x.requester x.tag count code
    exact h ▸ ⟨hzero, hrequester, htag⟩
  cases hb : x.body with
  | taken => exact hfields 0x10#8 0 0 (by simp only [Answer.toWords, hb, wordAt_zero])
  | deferred => exact hfields 0x11#8 0 0 (by simp only [Answer.toWords, hb, wordAt_zero])
  | busy r => exact hfields 0x12#8 0 r.code (by simp only [Answer.toWords, hb, wordAt_zero])
  | completion st data => exact hfields 0x13#8 data.length st.code (by simp only [Answer.toWords, hb, wordAt_zero])

/-- R173: TAKEN and DEF carry neither a count nor a code. -/
theorem bare_answerHeader_fields (kind : BitVec 8) (r : Requester) (t : Tag) :
    bits (answerHeader kind r t 0 0) 24 8 = kind ∧ bits (answerHeader kind r t 0 0) 0 12 = 0 := by
  obtain ⟨hkind, -, -, -, hcount, hcode⟩ := answerHeader_fields kind r t 0 0
  exact ⟨hkind, bits_add_eq_zero (lo := 0) (m := 6) (n := 6) hcode hcount⟩

/-- R173, R174: the words of an answer of each kind. -/
theorem Answer.body_fields (x : Answer) :
    let ws := x.toWords
    let w0 := wordAt ws 0
    (x.body = .taken → ws.length = 1 ∧ bits w0 24 8 = 0x10 ∧ bits w0 0 12 = 0)
      ∧ (x.body = .deferred → ws.length = 1 ∧ bits w0 24 8 = 0x11 ∧ bits w0 0 12 = 0)
      ∧ (∀ reason, x.body = .busy reason →
          ws.length = 1 ∧ bits w0 24 8 = 0x12 ∧ bits w0 6 6 = 0 ∧ (bits w0 0 6).toNat = reason.code)
      ∧ ∀ status data, x.body = .completion status data →
          ws.length = 1 + data.length ∧ ws.drop 1 = data ∧ bits w0 24 8 = 0x13 ∧ (bits w0 0 6).toNat = status.code
            ∧ (data.length < 64 → (bits w0 6 6).toNat = data.length) := by
  refine ⟨fun hb => ?taken, fun hb => ?deferred, fun r hb => ?busy, fun st data hb => ?completion⟩
  all_goals simp only [Answer.toWords, hb, wordAt_zero]
  case taken => exact ⟨rfl, bare_answerHeader_fields _ _ _⟩
  case deferred => exact ⟨rfl, bare_answerHeader_fields _ _ _⟩
  case busy =>
    obtain ⟨hkind, -, -, -, hcount, hcode⟩ := answerHeader_fields 0x12#8 x.requester x.tag 0 r.code
    exact ⟨rfl, hkind, hcount, by rw [hcode, BusyReason.toNat_code]⟩
  case completion =>
    obtain ⟨hkind, -, -, -, hcount, hcode⟩ := answerHeader_fields 0x13#8 x.requester x.tag data.length st.code
    refine ⟨Nat.add_comm _ _, rfl, hkind, by rw [hcode, CplStatus.toNat_code], fun hlength => ?_⟩
    rw [hcount, BitVec.toNat_ofNat, Nat.mod_eq_of_lt hlength]

/-- R173: word 0 of an NTC. -/
def Notice.header (n : Notice) : Word :=
  (0x14#8 : BitVec 8) ++ (0 : BitVec 3) ++ requesterBits n.dest ++ n.source.origin ++ (0 : BitVec 2)
    ++ BitVec.ofNat 3 n.payload.length ++ n.source.code

theorem Notice.toWords_eq (n : Notice) : n.toWords = n.header :: ((0 : BitVec 16) ++ n.seq) :: n.payload := rfl

theorem Notice.header_fields (n : Notice) :
    bits n.header 24 8 = 0x14#8 ∧ bits n.header 21 3 = 0 ∧ (bits n.header 16 5).toNat = n.dest.val
      ∧ bits n.header 13 3 = n.source.origin ∧ bits n.header 11 2 = 0 ∧ bits n.header 8 3 = BitVec.ofNat 3 n.payload.length
      ∧ bits n.header 0 8 = n.source.code := by
  simp (disch := decide) only [bits, Notice.header, BitVec.extractLsb'_append_eq_of_add_le, BitVec.extractLsb'_append_eq_of_le,
    Nat.reduceSub, BitVec.extractLsb'_eq_self, requesterBits, BitVec.toNat_ofFin, and_self]

theorem noticeNumberWord_fields (seq : BitVec 16) :
    bits ((0 : BitVec 16) ++ seq : Word) 16 16 = 0 ∧ bits ((0 : BitVec 16) ++ seq : Word) 0 16 = seq := by
  simp (disch := decide) only [bits, BitVec.extractLsb'_append_eq_of_add_le, BitVec.extractLsb'_append_eq_of_le, Nat.reduceSub,
    BitVec.extractLsb'_eq_self, and_self]

/-- R173: the origin of a target notice is its branch. -/
theorem NoticeSource.toNat_origin_target (b : BranchId) (code : BitVec 8) : (NoticeSource.target b code).origin.toNat = b.val := by
  have hb : b.val < 8 := b.isLt.trans (by decide)
  exact (BitVec.toNat_ofNat _ _).trans (Nat.mod_eq_of_lt hb)

/-- R100, R174: the code of an alert notice is its class. -/
theorem NoticeSource.toNat_code_alert (c : AlertKind) : (NoticeSource.alert c).code.toNat = c.number := by cases c <;> rfl

/-- R173: a branch request holds its fields at their bits. -/
theorem branchRequest_isBranchRequest (kind : BitVec 8) (length : BitVec 6) (a : Address) (data : List Word) :
    IsBranchRequest (branchRequest kind length a data) kind length a data := by
  obtain ⟨hkind, hzero, hlength, hlow⟩ := branchHeader_fields kind length
  have hhigh : bits (addressHigh a) 8 24 = 0 := by
    rw [addressHigh_eq_place]
    exact bits_place_of_disjoint _ _ _ _ (.inr (by decide))
  have hwords : (branchRequest kind length a data).length = 3 + data.length := by
    simp only [branchRequest, List.length_cons]
    omega
  exact ⟨hwords, rfl, hkind, hzero, hlength, hlow, hhigh, addressOf_high_low a⟩

/-- Settles O59: each header word is read field by field, and the words behind it are the rest of the packet. -/
theorem packetsReadBack : Obligations.PacketsReadBack := by
  refine ⟨fun k q h => memoryRequest_readsBack k h, abandon_readsBack,
    fun m h => ⟨managementRead_readsBack h, managementWrite_readsBack h⟩, fun kind r t h => unknown_readsBack r t h,
    fun p h => targetPacket_readsBack h, fun x => ?answer, fun x => ?notice, fun q => ?entry, fun p => ?posted,
    fun a w => ⟨branchRequest_isBranchRequest _ _ _ _, branchRequest_isBranchRequest _ _ _ _⟩, fun _ => rfl, by decide, by decide,
    by decide, by decide⟩
  case answer =>
    obtain ⟨hzero, hrequester, htag⟩ := x.requester_fields
    exact ⟨hzero, hrequester, htag, x.body_fields⟩
  case notice =>
    intro ws w0
    obtain ⟨hkind, hzero, hdest, horigin, hgap, hcount, hcode⟩ := x.header_fields
    obtain ⟨hhigh, hseq⟩ := noticeNumberWord_fields x.seq
    have hwords : x.toWords.length = 2 + x.payload.length := by
      simp only [Notice.toWords_eq, List.length_cons]
      omega
    refine ⟨hwords, rfl, hkind, hzero, hdest, hgap, hhigh, hseq, fun hlength => ?_, fun b code hsource => ?_, fun c hsource => ?_⟩
    · exact (congrArg BitVec.toNat hcount).trans ((BitVec.toNat_ofNat _ _).trans (Nat.mod_eq_of_lt hlength))
    · rw [hsource] at horigin hcode
      exact ⟨(congrArg BitVec.toNat horigin).trans (NoticeSource.toNat_origin_target b code), hcode⟩
    · rw [hsource] at horigin hcode
      exact ⟨horigin, (congrArg BitVec.toNat hcode).trans (NoticeSource.toNat_code_alert c)⟩
  case entry =>
    refine ⟨fun hk => ?_, fun hk => ?_, fun hk => ?_⟩
    all_goals
      rw [EntryRequest.issueWords, hk]
      exact branchRequest_isBranchRequest _ _ _ _
  case posted => exact branchRequest_isBranchRequest _ _ _ _

end Sys2Proof.Machine

namespace Sys2Proof.Machine

/-! O1: no operation touches the queue of commands. It is part of the background, so what is left are the operations that change the
rest of the background: management writes and resets. -/

/-! ### What leaves the queue of commands alone -/

theorem State.pending_of_swapsTo {s t : State} (h : s.background.SwapsTo t.background) : t.pending = s.pending :=
  h.elim (congrArg Background.pending) (congrArg Background.pending)

theorem State.pending_takeRequest {s : State} {p : TrunkPacket} {serve : State → State}
    (h : ∀ u : State, (serve u).pending = u.pending) : (s.takeRequest p serve).pending = s.pending :=
  State.takeRequest_elim (P := fun t => t.pending = s.pending) rfl (fun _ => h _)

theorem State.pending_takeTarget {s : State} {b : BranchId} {p : TargetPacket} {serve : State → State}
    (h : ∀ u : State, (serve u).pending = u.pending) : (s.takeTarget b p serve).pending = s.pending :=
  State.takeTarget_elim (P := fun t => t.pending = s.pending) rfl (h _) (fun _ => h _)

@[simp] theorem State.pending_resetAll (s : State) (cause : ResetCause) (trunk : TrunkPort) :
    (s.resetAll cause trunk).pending = s.pending := by simp [State.resetAll]

@[simp] theorem State.pending_commitAction (s : State) (action : BitVec 4) : (s.commitAction action).pending = s.pending := by
  unfold State.commitAction
  split
  · exact State.pending_of_swapsTo s.swapsTo_commitSwap
  · split
    · exact State.pending_of_swapsTo s.swapsTo_startDrain
    · split
      · exact State.pending_of_swapsTo (.inl s.background_cancelDrain)
      · split <;> rfl

@[simp] theorem State.pending_applyWrite (s : State) (o : Object) (ws : List Word) : (s.applyWrite o ws).pending = s.pending := by
  cases o with
  | commit => exact s.pending_commitAction _
  | branch b => exact State.pending_of_swapsTo (s.swapsTo_writeBranch b _)
  | probe b =>
    simp only [State.applyWrite]
    split <;> rfl
  | alert => exact congrArg Background.pending (s.background_writeAlert ws)
  | part => exact s.pending_resetAll _ _
  | ident | winStaged i | winActive i | req r | fault r | entry n | timing => rfl

theorem State.pending_refuseManagement (s : State) (kind : BitVec 8) (m : ManagementRequest) (c : FaultCauses) (st : CplStatus) :
    (s.refuseManagement kind m c st).pending = s.pending :=
  congrArg Background.pending (s.background_refuseManagement kind m c st)

@[simp] theorem State.pending_serveWrite (s : State) (m : ManagementRequest) : (s.serveWrite m).pending = s.pending := by
  simp only [State.serveWrite]
  split
  · exact s.pending_refuseManagement _ _ _ _
  · split
    · exact s.pending_refuseManagement _ _ _ _
    · split
      · exact s.pending_refuseManagement _ _ _ _
      · split
        · exact s.pending_refuseManagement _ _ _ _
        · rw [State.pending_applyWrite, State.pending_of_swapsTo (.inl (s.background_answer _ _ _))]

theorem State.pending_takeWrite (s : State) (m : ManagementRequest) : (s.takeWrite m).pending = s.pending :=
  State.pending_takeRequest (fun u => u.pending_serveWrite m)

/-! ### Every command -/

/-- No command stops the relay. -/
theorem exec_eq_next (c : Instr) (s : State) : ∃ t, exec c s = .next t := by
  cases c <;> exact ⟨_, rfl⟩

/-- Every command leaves the queue of commands alone: management writes and resets keep it themselves, and the others leave the
background alone but for a swap of the window banks. -/
theorem exec_pending {c : Instr} {s t : State} (h : exec c s = .next t) : t.pending = s.pending := by
  cases c <;> (cases h)
  case read | confirmedWrite | postedWrite | exchange | abandon | unknownKind | managementRead =>
    exact State.pending_takeRequest (fun u => State.pending_of_swapsTo (by simp))
  case managementWrite | winStagedWrite | immediate | drain | cancel | revert | reqWrite | take | branchSettingsWrite | holdFlagSet
      | holdFlagCleared | resetFlagSet | resetFlagCleared | probeRead | probeWrite | alertAcknowledge | alertEnable | timingWrite
      | partReset =>
    exact s.pending_takeWrite _
  case hardReset | powerUp => exact s.quiet.pending_resetAll _ _
  case done | later | refuse | bntc | strayTargetPacket =>
    exact State.pending_takeTarget (fun u => State.pending_of_swapsTo (by simp))
  case responseTimeout =>
    split
    · exact State.pending_of_swapsTo (s.quiet.swapsTo_endIssue _ _ _)
    · rfl
  case dataFrame =>
    split
    · exact State.pending_of_swapsTo (s.quiet.swapsTo_receiveFailure _)
    · exact State.pending_of_swapsTo (s.quiet.swapsTo_receive _ _)
  case ack | resend | train => exact State.pending_of_swapsTo (s.quiet.swapsTo_receive _ _)
  case checkFailure => exact State.pending_of_swapsTo (s.quiet.swapsTo_receiveWords _ _)
  case acknowledgementTimerExpiry => exact State.pending_of_swapsTo (s.quiet.swapsTo_expireAck _)
  case signalAbsent => exact State.pending_of_swapsTo (s.quiet.swapsTo_signalLost _)
  case engineChoice | retryIntervalPasses | backoffIntervalEnds | collectionTimerExpiry | drainTimerExpiry | transmitChoice
      | trainFrameSend =>
    exact State.pending_of_swapsTo (s := s.quiet) (.inl (by simp))

/-! ### A step -/

theorem step_of_pending_cons (c : Instr) (s : State) (rest : List Instr) :
    step { s with pending := c :: rest } = exec c { s with pending := rest } := rfl

theorem step_of_pending_nil {s : State} (h : s.pending = []) : step s = .next s := by
  unfold step
  rw [h]

/-- Settles O1: the two cases of a step, and what every command answers. -/
theorem stepRunsFrontCommand : Obligations.StepRunsFrontCommand := by
  refine ⟨step_of_pending_cons, fun _ => step_of_pending_nil, fun c s => ?_⟩
  obtain ⟨t, ht⟩ := exec_eq_next c s
  exact ⟨t, ht, exec_pending ht⟩

end Sys2Proof.Machine
